-- ==== Sys2Proof/Word.lean ====
section
/-! DEFINITION. The word types of WAVEGEN's ports and registers (spec/00_scope.md R5, R6). -/

namespace Sys2Proof

/-- A 32-bit register or port word (R14, R33). -/
abbrev Word := BitVec 32

/-- One byte of a DAC frame on the bus (R34, R48). -/
abbrev Byte := BitVec 8

/-- A 12-bit DAC code, unsigned, 0 to 4095 (R5, R10). -/
abbrev Code := BitVec 12

/-- The 64-bit time base and the 64-bit elapsed times (R5, R25, R26). -/
abbrev Ticks := BitVec 64

/-- A 7-bit peripheral address of the two-wire bus (R31). -/
abbrev BusAddr := BitVec 7

end Sys2Proof
end

