-- ==== Sys2Proof/Config.lean ====
section
/-! DEFINITION. What is fixed for a WAVEGEN instance (R5) and the free values (R5, R28, R63). -/

namespace Sys2Proof

/-- SINE_IMPL: how the sine sampler's SIN14 is made (R63). -/
inductive SineImpl where
  /-- The quarter-wave ROM of R83, the default and this hardware's. -/
  | lut
  /-- A CORDIC meeting S1 to S4 of R63, whose values the spec leaves to the implementation (93 U18). -/
  | cordic
  deriving DecidableEq, Repr

/-- The implementation parameters of R5 that rules of the block read. `State` carries one value of this type, which no
step writes. The one other parameter of R5, P_F_TICK_HZ, is `Config.tickHz` below. -/
structure Params where
  /-- P_FULL_SCALE_UV, in µV. -/
  fullScaleUv : Nat
  /-- P_STEP_DEPTH, the number of step-table entries. -/
  stepDepth : Nat
  /-- P_ADDR_LO, the bus address when CTRL.ADDR_SEL = 0. -/
  addrLo : BusAddr
  /-- P_ADDR_HI, the bus address when CTRL.ADDR_SEL = 1. -/
  addrHi : BusAddr
  /-- SINE_IMPL. -/
  sineImpl : SineImpl
  deriving DecidableEq, Repr

/-- The legal values of the parameters (R5). -/
def Params.legal (p : Params) : Bool :=
  decide (1 ≤ p.fullScaleUv) && decide (p.fullScaleUv ≤ 2 ^ 31 - 1)
    && decide (1 ≤ p.stepDepth) && decide (p.stepDepth ≤ 256)

/-- The values for this hardware (R5). PRESUMED: 0x60 and 0x61 are the spec's own general knowledge (93 G1). -/
def Params.wavegen : Params :=
  { fullScaleUv := 3300000, stepDepth := 256, addrLo := 0x60, addrHi := 0x61, sineImpl := .lut }

/-- The free value of a step entry that nothing has written since power-on (R28, 93 U2 "any value"): `index` is the
entry and `draw` counts the draws, so that two reads need not agree. Nothing is known of it. -/
opaque Config.unwrittenEntry (index draw : Nat) : Word

/-- A CORDIC's sine (R63): its quarter wave, SIN14(j) for j from 0 to 4096, and the ERR_SIN it states. The fields are
S1 to S3 on that quarter; S4 fixes the other three (Machine/Sine.lean), where S1 to S3 follow by the same symmetry. So
a value of this type is exactly an implementation that R63 admits: a quarter wave has no negative value, since 0 is
exact and every later sine is above 12. -/
structure CordicSine where
  /-- SIN14 on the first quarter. -/
  quarter : Nat → Nat
  /-- ERR_SIN, which a CORDIC must state (S3). -/
  errSin : ℚ
  /-- ERR_SIN is at most 2 (S3). -/
  errSin_le : errSin ≤ 2
  /-- S1. -/
  le_top : ∀ j, j ≤ 4096 → quarter j ≤ 32767
  /-- S2 at 0. -/
  at_zero : quarter 0 = 0
  /-- S2 at the quarter. -/
  at_quarter : quarter 4096 = 32767
  /-- S3: no further than ERR_SIN from the exact sine. -/
  close : ∀ j, j ≤ 4096 → |(quarter j : ℝ) - 32767 * Real.sin (2 * Real.pi * j / 16384)| ≤ (errSin : ℝ)

/-- The free value behind SINE_IMPL = CORDIC (R63, 93 U18): some implementation that R63 admits. Nothing else is known of
it. The instance argument says only that there is one; Machine/Sine.lean gives it. -/
opaque Config.cordicSine [Inhabited CordicSine] : CordicSine

/-- A clock frequency in Hz: a positive real (R5). -/
structure TickRate where
  /-- The frequency in Hz. -/
  hz : ℝ
  /-- It is positive. -/
  pos : 0 < hz

/-- The free value behind P_F_TICK_HZ, which R5 leaves open (93 U19). The instance argument says only that there is a
positive real. -/
opaque Config.tickRate [Inhabited TickRate] : TickRate

/-- P_F_TICK_HZ, the clock frequency of this hardware in Hz (R5): a constant of the block of which nothing but its sign
is known. A real number is not plain data, so it stands here and not in `Params`; no rule of the block depends on it. -/
def Config.tickHz : ℝ :=
  (@Config.tickRate ⟨{ hz := 1, pos := one_pos }⟩).hz

end Sys2Proof
end

