-- ==== Sys2Proof/Syntax.lean ====
section
/-! DEFINITION. The operations of WAVEGEN: one constructor for each row of spec/opcode_table.json. Bits a format
ignores are operands too, so that no bit of an encoding is lost in decoding. -/

namespace Sys2Proof

/-- The operations of spec/opcode_table.json: host transactions and commands (R52 to R56), the waveform modes a run
can have (R44), the transport requests (R72, R74) and the DAC register write (R48). -/
inductive Instr where
  /-- `WR CMD, w` with w[7:0] = 0x01 (R56). `upper` is w[31:8], which has no effect (R43). -/
  | start (upper : BitVec 24)
  /-- `WR CMD, w` with w[7:0] other than 0x01 (R55). `upper` is w[31:8] and `opc` is w[7:0]. -/
  | nop (upper : BitVec 24) (opc : Byte)
  /-- `WR` of the word slot `waddr` with `data` (R53). -/
  | wr (waddr : BitVec 10) (data : Word)
  /-- `RD` of the word slot `waddr` (R52). `data` is the DATA field, which a read ignores (R42). -/
  | rd (waddr : BitVec 10) (data : Word)
  /-- CTRL.MODE = 0: the step sequence (R44, R66, R71, R76). -/
  | modeStep
  /-- CTRL.MODE = 1: the sine sampler (R44, R64, R70). -/
  | modeSine
  /-- CTRL.MODE = 2: the sawtooth sampler (R44, R65, R70). -/
  | modeSawtooth
  /-- CTRL.MODE = 3: reserved, refused by START with ERR = MODE (R44, R56). -/
  | modeReserved
  /-- The SELECT request of the bus address `addr` (R46, R72, R73). -/
  | tpSelect (addr : BusAddr)
  /-- The WRITE request of `code` at the bus address `addr` (R46, R74, R75). -/
  | tpWrite (addr : BusAddr) (code : Code)
  /-- The DAC register write: the two-byte frame of `code` (R48). -/
  | dacFrame (code : Code)
  deriving DecidableEq, Repr

/-- The four formats the table's rows come in. The port an encoding arrives on fixes its format (R41). -/
inductive Format where
  /-- HOSTOP, 43 bits (R42). -/
  | hostOp
  /-- The CTRL.MODE field, 2 bits (R44). -/
  | ctrlMode
  /-- TPREQ, 24 bits (R46). -/
  | tpReq
  /-- FRAME16, 16 bits (R48). -/
  | frame16
  deriving DecidableEq, Repr

/-- The length of each format in bits (R41, R44). -/
abbrev Format.width : Format → Nat
  | .hostOp => 43
  | .ctrlMode => 2
  | .tpReq => 24
  | .frame16 => 16

/-- The format of each operation (the "format" column of spec/opcode_table.json). -/
def Instr.format : Instr → Format
  | .start _ => .hostOp
  | .nop _ _ => .hostOp
  | .wr _ _ => .hostOp
  | .rd _ _ => .hostOp
  | .modeStep => .ctrlMode
  | .modeSine => .ctrlMode
  | .modeSawtooth => .ctrlMode
  | .modeReserved => .ctrlMode
  | .tpSelect _ => .tpReq
  | .tpWrite _ _ => .tpReq
  | .dacFrame _ => .frame16

end Sys2Proof
end

