-- ==== Sys2Proof/WellFormed.lean ====
section
/-! DEFINITION. Which terms of `Instr` stand for a word of their row. The rows START, NOP and WR overlap in the table
and are told apart by the decode priority (START, NOP, WR, RD), which these checks repeat. -/

namespace Sys2Proof

/-- The word slot of CMD: byte offset 0x004 (R14, R16). -/
abbrev cmdSlot : BitVec 10 := 1

/-- The command opcode of START (R43). -/
abbrev startOpcode : Byte := 1

/-- A NOP's opcode is not START's (R43, R55), and a `WR` row is no write to CMD, which is a command (R53). Every other
operand has every value (R49). -/
def Instr.wf : Instr → Bool
  | .start _ => true
  | .nop _ opc => opc != startOpcode
  | .wr waddr _ => waddr != cmdSlot
  | .rd _ _ => true
  | .modeStep => true
  | .modeSine => true
  | .modeSawtooth => true
  | .modeReserved => true
  | .tpSelect _ => true
  | .tpWrite _ _ => true
  | .dacFrame _ => true

end Sys2Proof
end

