-- ==== Sys2Proof/Decode.lean ====
section
/-! DEFINITION. Decoding (R41 to R48) and, after it, the encoder. An encoding is a word of one of the four formats: the
port it arrives on says which (R41). The decoder is total; it refuses by name the TPREQ and FRAME16 words that no row
of the table has. -/

namespace Sys2Proof

/-- A word of one of the formats. -/
inductive Encoding where
  /-- A HOSTOP word as the host port carries it: hp_we, hp_addr, hp_wdata (R42). -/
  | hostOp (w : BitVec 43)
  /-- The field CTRL[1:0] (R44). -/
  | ctrlMode (w : BitVec 2)
  /-- A TPREQ word: tp_req_op, tp_req_addr, tp_req_data (R46). -/
  | tpReq (w : BitVec 24)
  /-- The 16 bits of a DAC frame (R48). -/
  | frame16 (w : BitVec 16)
  deriving DecidableEq, Repr

/-- Why a word is refused. -/
inductive DecodeError where
  /-- A TPREQ with OP = 0 whose DATA is not 0x0000 (R46: SELECT carries 0x0000). -/
  | selectWithData
  /-- A TPREQ with OP = 1 whose DATA[15:12] is not 0 (R46, R48). -/
  | writeUpperNibble
  /-- A FRAME16 whose bits 15 to 12 are not 0 (R48). -/
  | frameUpperNibble
  /-- A length that no format of the table has (R41). -/
  | unknownLength
  deriving DecidableEq, Repr

/-- CMD32: the command opcode is w[7:0] and bits [31:8] are ignored (R43). -/
def decodeCommand (w : Word) : Instr :=
  if w.extractLsb' 0 8 = startOpcode then .start (w.extractLsb' 8 24)
  else .nop (w.extractLsb' 8 24) (w.extractLsb' 0 8)

/-- HOSTOP: WE is bit 42, WADDR bits 41 to 32, DATA bits 31 to 0 (R42), in the table's priority START, NOP, WR, RD. -/
def decodeHostOp (w : BitVec 43) : Instr :=
  if w.getLsbD 42 then
    if w.extractLsb' 32 10 = cmdSlot then decodeCommand (w.extractLsb' 0 32)
    else .wr (w.extractLsb' 32 10) (w.extractLsb' 0 32)
  else .rd (w.extractLsb' 32 10) (w.extractLsb' 0 32)

/-- The CTRL.MODE field (R44). -/
def decodeMode (m : BitVec 2) : Instr :=
  if m = 0 then .modeStep
  else if m = 1 then .modeSine
  else if m = 2 then .modeSawtooth
  else .modeReserved

/-- TPREQ: OP is bit 23, ADDR bits 22 to 16, DATA bits 15 to 0 (R46). -/
def decodeTpReq (w : BitVec 24) : Except DecodeError Instr :=
  if w.getLsbD 23 then
    if w.extractLsb' 12 4 = 0 then .ok (.tpWrite (w.extractLsb' 16 7) (w.extractLsb' 0 12))
    else .error .writeUpperNibble
  else
    if w.extractLsb' 0 16 = 0 then .ok (.tpSelect (w.extractLsb' 16 7))
    else .error .selectWithData

/-- FRAME16: the upper nibble of byte 0 is 0 and the code follows (R48). -/
def decodeFrame (w : BitVec 16) : Except DecodeError Instr :=
  if w.extractLsb' 12 4 = 0 then .ok (.dacFrame (w.extractLsb' 0 12))
  else .error .frameUpperNibble

/-- The decoder of every format. -/
def decode : Encoding → Except DecodeError Instr
  | .hostOp w => .ok (decodeHostOp w)
  | .ctrlMode m => .ok (decodeMode m)
  | .tpReq w => decodeTpReq w
  | .frame16 w => decodeFrame w

/-- The format whose row has `nbits` bits in whole bytes, and its word. HOSTOP's 43 bits fill 6 bytes, CTRL.MODE's 2
bits one byte, TPREQ 3 bytes, FRAME16 2 bytes. A bit above the format's length has no wire on the port it would arrive
on, so it is dropped. DESIGN CHOICE (log entry 11). -/
def tableEncoding (nbits w : Nat) : Except DecodeError Encoding :=
  if 43 ≤ nbits ∧ nbits ≤ 48 then .ok (.hostOp (BitVec.ofNat 43 w))
  else if nbits = 24 then .ok (.tpReq (BitVec.ofNat 24 w))
  else if nbits = 16 then .ok (.frame16 (BitVec.ofNat 16 w))
  else if 2 ≤ nbits ∧ nbits ≤ 8 then .ok (.ctrlMode (BitVec.ofNat 2 w))
  else .error .unknownLength

/-- Decoding a word of a table row of `nbits` bits, with the reason where it is refused. -/
def decodeWord (nbits w : Nat) : Except DecodeError Instr :=
  match tableEncoding nbits w with
  | .ok e => decode e
  | .error r => .error r

/-- The host's reading of the decoder: the instruction of a row's word, or none where the decoder refuses it. -/
def decodeTableWord (nbits w : Nat) : Option Instr :=
  match decodeWord nbits w with
  | .ok i => some i
  | .error _ => none

/-! The encoder, and the words the block itself builds. -/

/-- HOSTOP `{WE, WADDR, DATA}` (R42). -/
def hostOpWord (we : Bool) (waddr : BitVec 10) (data : Word) : BitVec 43 :=
  BitVec.ofBool we ++ waddr ++ data

/-- CMD32 `{ignored, OPC}` (R43). -/
def commandWord (upper : BitVec 24) (opc : Byte) : Word :=
  upper ++ opc

/-- FRAME16(code) = zext_16(code) (R48). -/
def frame16 (code : Code) : BitVec 16 :=
  (0 : BitVec 4) ++ code

/-- Byte 0 of the frame, first on the wire: `{0b0000, code[11:8]}` (R34, R48). -/
def frameByte0 (code : Code) : Byte :=
  (frame16 code).extractLsb' 8 8

/-- Byte 1 of the frame, second on the wire: `code[7:0]` (R34, R48). -/
def frameByte1 (code : Code) : Byte :=
  (frame16 code).extractLsb' 0 8

/-- TPREQ `{OP, ADDR, DATA}` (R46). -/
def tpReqWord (op : Bool) (addr : BusAddr) (data : BitVec 16) : BitVec 24 :=
  BitVec.ofBool op ++ addr ++ data

/-- A SELECT request: OP = 0, DATA = 0x0000 (R46, R72). -/
def selectWord (addr : BusAddr) : BitVec 24 :=
  tpReqWord false addr 0

/-- A WRITE request: OP = 1, DATA = FRAME16(code) (R46, R74). -/
def writeWord (addr : BusAddr) (code : Code) : BitVec 24 :=
  tpReqWord true addr (frame16 code)

/-- The encoder: the word of each operation, by the encodings of R42 to R48. -/
def encode : Instr → Encoding
  | .start upper => .hostOp (hostOpWord true cmdSlot (commandWord upper startOpcode))
  | .nop upper opc => .hostOp (hostOpWord true cmdSlot (commandWord upper opc))
  | .wr waddr data => .hostOp (hostOpWord true waddr data)
  | .rd waddr data => .hostOp (hostOpWord false waddr data)
  | .modeStep => .ctrlMode 0
  | .modeSine => .ctrlMode 1
  | .modeSawtooth => .ctrlMode 2
  | .modeReserved => .ctrlMode 3
  | .tpSelect addr => .tpReq (selectWord addr)
  | .tpWrite addr code => .tpReq (writeWord addr code)
  | .dacFrame code => .frame16 (frame16 code)

/-- The number a format's word is, bit 0 least significant. -/
def Encoding.toNat : Encoding → Nat
  | .hostOp w => w.toNat
  | .ctrlMode w => w.toNat
  | .tpReq w => w.toNat
  | .frame16 w => w.toNat

/-- The format an encoding is of. -/
def Encoding.format : Encoding → Format
  | .hostOp _ => .hostOp
  | .ctrlMode _ => .ctrlMode
  | .tpReq _ => .tpReq
  | .frame16 _ => .frame16

/-- A transport response: OK is bit 2 and COUNT bits 1 to 0 of TPRSP (R47). -/
structure TpRsp where
  /-- tp_rsp_ok: the operation succeeded. -/
  ok : Bool
  /-- tp_rsp_count: the bytes the channel accepted. -/
  count : BitVec 2
  deriving DecidableEq, Repr

/-- TPRSP, 3 bits (R47). Every word decodes. -/
def decodeTpRsp (w : BitVec 3) : TpRsp :=
  { ok := w.getLsbD 2, count := w.extractLsb' 0 2 }

/-- The TPRSP word of a response (R47). -/
def encodeTpRsp (r : TpRsp) : BitVec 3 :=
  BitVec.ofBool r.ok ++ r.count

/-- A WRITE succeeds exactly when OK = 1 and COUNT is at least 2; COUNT = 3 counts as success (R47). -/
def TpRsp.writeOk (r : TpRsp) : Bool :=
  r.ok && decide (2 ≤ r.count.toNat)

end Sys2Proof
end

