-- ==== Sys2Proof/Machine/State.lean ====
section
/-! DEFINITION. The state of WAVEGEN as plain data: every element of R13 to R30, the parameters of R5, the pins of the
ports, and four fields of the model's own (log entries 1 to 4). -/

namespace Sys2Proof.Machine

/-- The states of the loop controller (R13). -/
inductive Fsm where
  /-- No run in progress. -/
  | stopped
  /-- Periodic mode: take a time sample, test termination, compute a code. -/
  | pSample
  /-- Step mode: issue the first entry of a run. -/
  | sEntry
  /-- Present a SELECT request. -/
  | selReq
  /-- Wait for the SELECT response. -/
  | selWait
  /-- Present a WRITE request. -/
  | wrReq
  /-- Wait for the WRITE response. -/
  | wrWait
  /-- Step mode: hold the current entry for one period. -/
  | sHold
  deriving DecidableEq, Repr

/-- The error kinds STATUS.ERR can hold; the codes 7 to 15 are never produced (R45). -/
inductive ErrKind where
  | none
  | acquisition
  | transportSelect
  | transportWrite
  | parameter
  | frequency
  | mode
  deriving DecidableEq, Repr

/-- The input pins of one clock cycle (R33, R68, R97). -/
structure Pins where
  /-- `rst`: synchronous reset, active high. -/
  rst : Bool
  /-- `hp_valid`: a host access is presented. -/
  hpValid : Bool
  /-- `hp_we`: 1 = write, 0 = read. -/
  hpWe : Bool
  /-- `hp_addr`: the word address. -/
  hpAddr : BitVec 10
  /-- `hp_wdata`: the write data. -/
  hpWdata : Word
  /-- `tp_avail`: the transport handle is acquired and usable. -/
  tpAvail : Bool
  /-- `tp_req_ready`: the transport takes the presented request in this cycle. -/
  tpReqReady : Bool
  /-- `tp_rsp_valid`: a response is presented. -/
  tpRspValid : Bool
  /-- `tp_rsp_ok` and `tp_rsp_count`. -/
  tpRsp : TpRsp
  deriving DecidableEq, Repr

/-- Pins on which the outside world does nothing: no reset, no access, no transport. -/
def Pins.idle : Pins :=
  { rst := false, hpValid := false, hpWe := false, hpAddr := 0, hpWdata := 0, tpAvail := false,
    tpReqReady := false, tpRspValid := false, tpRsp := { ok := false, count := 0 } }

/-- The request pins of the transport port (R68). -/
structure TpReqPins where
  /-- `tp_req_valid`. -/
  valid : Bool
  /-- `tp_req_op`: false = SELECT, true = WRITE. -/
  op : Bool
  /-- `tp_req_addr`. -/
  addr : BusAddr
  /-- `tp_req_data`. -/
  data : BitVec 16
  deriving DecidableEq, Repr

/-- No request: every request output is 0 (R68). -/
def TpReqPins.quiet : TpReqPins :=
  { valid := false, op := false, addr := 0, data := 0 }

/-- The output pins of one clock cycle (R33, R68, R79). -/
structure Outputs where
  /-- `hp_rdata`, where it has a meaning: after a read. In a cycle with no read it is unspecified (R33), so absent. -/
  rdata : Option Word
  /-- The request pins. -/
  req : TpReqPins
  /-- `dbg_valid`. -/
  dbgValid : Bool
  /-- `dbg_volt`, an `int_32` in µV. -/
  dbgVolt : Word
  deriving DecidableEq, Repr

/-- The outputs of a cycle in which nothing is read, requested or reported. -/
def Outputs.quiet : Outputs :=
  { rdata := none, req := TpReqPins.quiet, dbgValid := false, dbgVolt := 0 }

/-- The outputs of a reset cycle: tp_req_valid and dbg_valid are forced to 0 and the others are 0 (R97). -/
def Outputs.inReset : Outputs :=
  { rdata := some 0, req := TpReqPins.quiet, dbgValid := false, dbgVolt := 0 }

/-- The step table: the entries written since power-on, as (index, word) pairs with strictly rising indices (R28). An
index that is not listed holds no value. -/
abbrev Memory := List (Nat × Word)

/-- The state of WAVEGEN. -/
structure State where
  /-- The implementation parameters (R5). No step writes them. -/
  par : Params
  /-- CTRL[3:0]: MODE, ADDR_SEL, VERBOSE (R15). Bits [31:4] are reserved and have no storage. -/
  ctrl : BitVec 4
  /-- LO, an `int_32` in µV (R17). -/
  lo : Word
  /-- HI, an `int_32` in µV (R17). -/
  hi : Word
  /-- FTW (R18). -/
  ftw : Word
  /-- REPEAT (R19). -/
  repeatN : Word
  /-- STEP_LEN.LEN (R20). -/
  stepLen : BitVec 9
  /-- The step table (R28). -/
  table : Memory
  /-- STATUS.DONE (R21). -/
  done : Bool
  /-- STATUS.ERR (R21). -/
  err : ErrKind
  /-- STATUS.ERR_COUNT (R21). -/
  errCount : BitVec 2
  /-- CYC (R22). -/
  cyc : Ticks
  /-- LAST_CODE[11:0] (R23). -/
  lastCode : Code
  /-- IDX (R24). -/
  idx : BitVec 8
  /-- FSM (R13). -/
  fsm : Fsm
  /-- NOW (R25). -/
  now : Ticks
  /-- T0 (R26). -/
  t0 : Ticks
  /-- ES (R26). -/
  es : Ticks
  /-- CODE (R27). -/
  code : Code
  /-- The model's own: the pins of this cycle (head) and of the cycles after it (log entry 1). -/
  inputs : List Pins
  /-- The model's own: the output pins of the last cycle (log entry 2). -/
  out : Outputs
  /-- The model's own: how many transferred requests the transport has not answered (R68 T1, T2; log entry 3). -/
  outstanding : Nat
  /-- The model's own: the TPREQ words transferred, oldest first (R40; log entry 3). -/
  requests : List (BitVec 24)
  /-- The model's own: the bytes of the frames handed to the transport, in wire order (R34; log entry 3). -/
  wire : List Byte
  /-- The model's own: how many free values have been drawn (log entry 4). -/
  draws : Nat
  deriving DecidableEq, Repr

/-- The machine in the first cycle after reset (R97, R98), with the parameters of this hardware (R5). The step table is
not reset and unspecified after power-on: no entry is listed. -/
def State.reset : State :=
  { par := Params.wavegen, ctrl := 0, lo := 0, hi := 0, ftw := 0, repeatN := 0, stepLen := 0, table := [],
    done := false, err := .none, errCount := 0, cyc := 0, lastCode := 0, idx := 0, fsm := .stopped,
    now := 0, t0 := 0, es := 0, code := 0,
    inputs := [], out := Outputs.inReset, outstanding := 0, requests := [], wire := [], draws := 0 }

/-- The faults of WAVEGEN: there is none. No encoding traps or is illegal (R49), a write never faults (R53), and every
error is recorded in STATUS (R85). Raised by nothing; safe. -/
inductive Fault where
  deriving DecidableEq, Repr

/-- Why an operation is refused. -/
inductive Refusal where
  /-- An operation without a meaning in this model, by its mnemonic. Raised only by an arm of exec that has no meaning;
  safe. No arm is left so. -/
  | notModelled (mnemonic : String)
  deriving DecidableEq, Repr

end Sys2Proof.Machine
end

