-- ==== Sys2Proof/Machine/Operands.lean ====
section
/-! DEFINITION. The operand forms: the register a word address names (R14, R31, R32, R42), the fields of CTRL, and
numbers read from registers (R6). -/

namespace Sys2Proof.Machine

/-- What stands at a word slot of the register window (R14, R32). -/
inductive Reg where
  | ctrl
  | cmd
  | lo
  | hi
  | ftw
  | repeatN
  | stepLen
  | status
  | cycles
  | lastCode
  | stepIdx
  | step (i : Nat)
  | reserved
  deriving DecidableEq, Repr

/-- The byte offset of a word address: WADDR × 4 (R42). -/
def byteOffset (waddr : BitVec 10) : Nat :=
  4 * waddr.toNat

/-- The register map of R14, for a step table of `depth` entries (R32). -/
def regAt (depth off : Nat) : Reg :=
  if off = 0x000 then .ctrl
  else if off = 0x004 then .cmd
  else if off = 0x008 then .lo
  else if off = 0x00C then .hi
  else if off = 0x010 then .ftw
  else if off = 0x014 then .repeatN
  else if off = 0x018 then .stepLen
  else if off = 0x01C then .status
  else if off = 0x020 then .cycles
  else if off = 0x024 then .lastCode
  else if off = 0x028 then .stepIdx
  else if 0x400 ≤ off ∧ off < 0x400 + 4 * depth then .step ((off - 0x400) / 4)
  else .reserved

/-- The register a HOSTOP's WADDR names (R42). -/
def regOf (depth : Nat) (waddr : BitVec 10) : Reg :=
  regAt depth (byteOffset waddr)

/-- CTRL.MODE (R15). -/
def State.mode (s : State) : BitVec 2 :=
  s.ctrl.extractLsb' 0 2

/-- CTRL.ADDR_SEL (R15). -/
def State.addrSel (s : State) : Bool :=
  s.ctrl.getLsbD 2

/-- CTRL.VERBOSE (R15). -/
def State.verbose (s : State) : Bool :=
  s.ctrl.getLsbD 3

/-- The bus address A of the transport requests: P_ADDR_HI if CTRL.ADDR_SEL = 1, else P_ADDR_LO (R46, R68). -/
def State.busAddr (s : State) : BusAddr :=
  if s.addrSel then s.par.addrHi else s.par.addrLo

/-- The pins of this cycle. When no more pins are listed the outside world does nothing (log entry 1). -/
def State.pins (s : State) : Pins :=
  s.inputs.headD Pins.idle

/-- E = (NOW − T0) mod 2^64, the ticks elapsed in the run (R61). -/
def State.elapsed (s : State) : Ticks :=
  s.now - s.t0

/-- H = (NOW − ES) mod 2^64, the ticks since the current step entry started (R76). -/
def State.held (s : State) : Ticks :=
  s.now - s.es

end Sys2Proof.Machine
end

