-- ==== Sys2Proof/Machine/Flags.lean ====
section
/-! DEFINITION. STATUS (R21, R29, R45) and the saturated view of CYC (R22). -/

namespace Sys2Proof.Machine

/-- The code of an error kind in STATUS.ERR (R45). -/
def ErrKind.code : ErrKind → BitVec 4
  | .none => 0
  | .acquisition => 1
  | .transportSelect => 2
  | .transportWrite => 3
  | .parameter => 4
  | .frequency => 5
  | .mode => 6

/-- STATUS.RUNNING: FSM is not STOPPED (R21). -/
def State.running (s : State) : Bool :=
  s.fsm != .stopped

/-- The word STATUS reads as: zext_32({ERR_COUNT, ERR, 0b00, DONE, RUNNING}) (R21, R52). -/
def State.status (s : State) : Word :=
  (s.errCount ++ s.err.code ++ (0 : BitVec 2) ++ BitVec.ofBool s.done ++ BitVec.ofBool s.running).setWidth 32

/-- sat32(x) = min(x, 2^32 − 1) (R7). -/
def sat32 (x : Nat) : Word :=
  BitVec.ofNat 32 (min x (2 ^ 32 - 1))

/-- The word CYCLES reads as: sat32(CYC) (R22). -/
def State.cycles (s : State) : Word :=
  sat32 s.cyc.toNat

end Sys2Proof.Machine
end

