-- ==== Sys2Proof/Machine/SineRom.lean ====
section
/-! DEFINITION. The quarter-wave sine ROM of R83 and R84. -/

namespace Sys2Proof.Machine

/-- Q[0] to Q[255], sixteen entries a row as in the table of R84. -/
def sineBlock0 : List (List Nat) :=
  [[0, 13, 25, 38, 50, 63, 75, 88, 101, 113, 126, 138, 151, 163, 176, 188],
   [201, 214, 226, 239, 251, 264, 276, 289, 302, 314, 327, 339, 352, 364, 377, 390],
   [402, 415, 427, 440, 452, 465, 477, 490, 503, 515, 528, 540, 553, 565, 578, 591],
   [603, 616, 628, 641, 653, 666, 679, 691, 704, 716, 729, 741, 754, 766, 779, 792],
   [804, 817, 829, 842, 854, 867, 880, 892, 905, 917, 930, 942, 955, 967, 980, 993],
   [1005, 1018, 1030, 1043, 1055, 1068, 1080, 1093, 1106, 1118, 1131, 1143, 1156, 1168, 1181, 1194],
   [1206, 1219, 1231, 1244, 1256, 1269, 1281, 1294, 1307, 1319, 1332, 1344, 1357, 1369, 1382, 1394],
   [1407, 1420, 1432, 1445, 1457, 1470, 1482, 1495, 1507, 1520, 1532, 1545, 1558, 1570, 1583, 1595],
   [1608, 1620, 1633, 1645, 1658, 1671, 1683, 1696, 1708, 1721, 1733, 1746, 1758, 1771, 1783, 1796],
   [1809, 1821, 1834, 1846, 1859, 1871, 1884, 1896, 1909, 1921, 1934, 1947, 1959, 1972, 1984, 1997],
   [2009, 2022, 2034, 2047, 2059, 2072, 2085, 2097, 2110, 2122, 2135, 2147, 2160, 2172, 2185, 2197],
   [2210, 2222, 2235, 2248, 2260, 2273, 2285, 2298, 2310, 2323, 2335, 2348, 2360, 2373, 2385, 2398],
   [2410, 2423, 2436, 2448, 2461, 2473, 2486, 2498, 2511, 2523, 2536, 2548, 2561, 2573, 2586, 2598],
   [2611, 2623, 2636, 2649, 2661, 2674, 2686, 2699, 2711, 2724, 2736, 2749, 2761, 2774, 2786, 2799],
   [2811, 2824, 2836, 2849, 2861, 2874, 2886, 2899, 2911, 2924, 2936, 2949, 2962, 2974, 2987, 2999],
   [3012, 3024, 3037, 3049, 3062, 3074, 3087, 3099, 3112, 3124, 3137, 3149, 3162, 3174, 3187, 3199]]

/-- Q[256] to Q[511], sixteen entries a row as in the table of R84. -/
def sineBlock1 : List (List Nat) :=
  [[3212, 3224, 3237, 3249, 3262, 3274, 3287, 3299, 3312, 3324, 3337, 3349, 3362, 3374, 3387, 3399],
   [3412, 3424, 3437, 3449, 3462, 3474, 3487, 3499, 3512, 3524, 3537, 3549, 3562, 3574, 3587, 3599],
   [3612, 3624, 3637, 3649, 3662, 3674, 3687, 3699, 3712, 3724, 3737, 3749, 3761, 3774, 3786, 3799],
   [3811, 3824, 3836, 3849, 3861, 3874, 3886, 3899, 3911, 3924, 3936, 3949, 3961, 3974, 3986, 3999],
   [4011, 4024, 4036, 4048, 4061, 4073, 4086, 4098, 4111, 4123, 4136, 4148, 4161, 4173, 4186, 4198],
   [4210, 4223, 4235, 4248, 4260, 4273, 4285, 4298, 4310, 4323, 4335, 4348, 4360, 4372, 4385, 4397],
   [4410, 4422, 4435, 4447, 4460, 4472, 4485, 4497, 4509, 4522, 4534, 4547, 4559, 4572, 4584, 4597],
   [4609, 4621, 4634, 4646, 4659, 4671, 4684, 4696, 4708, 4721, 4733, 4746, 4758, 4771, 4783, 4795],
   [4808, 4820, 4833, 4845, 4858, 4870, 4882, 4895, 4907, 4920, 4932, 4945, 4957, 4969, 4982, 4994],
   [5007, 5019, 5032, 5044, 5056, 5069, 5081, 5094, 5106, 5118, 5131, 5143, 5156, 5168, 5180, 5193],
   [5205, 5218, 5230, 5243, 5255, 5267, 5280, 5292, 5305, 5317, 5329, 5342, 5354, 5367, 5379, 5391],
   [5404, 5416, 5428, 5441, 5453, 5466, 5478, 5490, 5503, 5515, 5528, 5540, 5552, 5565, 5577, 5590],
   [5602, 5614, 5627, 5639, 5651, 5664, 5676, 5689, 5701, 5713, 5726, 5738, 5750, 5763, 5775, 5788],
   [5800, 5812, 5825, 5837, 5849, 5862, 5874, 5886, 5899, 5911, 5924, 5936, 5948, 5961, 5973, 5985],
   [5998, 6010, 6022, 6035, 6047, 6059, 6072, 6084, 6096, 6109, 6121, 6134, 6146, 6158, 6171, 6183],
   [6195, 6208, 6220, 6232, 6245, 6257, 6269, 6282, 6294, 6306, 6319, 6331, 6343, 6356, 6368, 6380]]

/-- Q[512] to Q[767], sixteen entries a row as in the table of R84. -/
def sineBlock2 : List (List Nat) :=
  [[6393, 6405, 6417, 6429, 6442, 6454, 6466, 6479, 6491, 6503, 6516, 6528, 6540, 6553, 6565, 6577],
   [6590, 6602, 6614, 6627, 6639, 6651, 6663, 6676, 6688, 6700, 6713, 6725, 6737, 6750, 6762, 6774],
   [6786, 6799, 6811, 6823, 6836, 6848, 6860, 6872, 6885, 6897, 6909, 6922, 6934, 6946, 6958, 6971],
   [6983, 6995, 7008, 7020, 7032, 7044, 7057, 7069, 7081, 7093, 7106, 7118, 7130, 7143, 7155, 7167],
   [7179, 7192, 7204, 7216, 7228, 7241, 7253, 7265, 7277, 7290, 7302, 7314, 7326, 7339, 7351, 7363],
   [7375, 7388, 7400, 7412, 7424, 7437, 7449, 7461, 7473, 7485, 7498, 7510, 7522, 7534, 7547, 7559],
   [7571, 7583, 7596, 7608, 7620, 7632, 7644, 7657, 7669, 7681, 7693, 7705, 7718, 7730, 7742, 7754],
   [7767, 7779, 7791, 7803, 7815, 7828, 7840, 7852, 7864, 7876, 7889, 7901, 7913, 7925, 7937, 7950],
   [7962, 7974, 7986, 7998, 8010, 8023, 8035, 8047, 8059, 8071, 8084, 8096, 8108, 8120, 8132, 8144],
   [8157, 8169, 8181, 8193, 8205, 8217, 8230, 8242, 8254, 8266, 8278, 8290, 8303, 8315, 8327, 8339],
   [8351, 8363, 8375, 8388, 8400, 8412, 8424, 8436, 8448, 8460, 8473, 8485, 8497, 8509, 8521, 8533],
   [8545, 8558, 8570, 8582, 8594, 8606, 8618, 8630, 8642, 8655, 8667, 8679, 8691, 8703, 8715, 8727],
   [8739, 8751, 8764, 8776, 8788, 8800, 8812, 8824, 8836, 8848, 8860, 8873, 8885, 8897, 8909, 8921],
   [8933, 8945, 8957, 8969, 8981, 8993, 9006, 9018, 9030, 9042, 9054, 9066, 9078, 9090, 9102, 9114],
   [9126, 9138, 9150, 9162, 9175, 9187, 9199, 9211, 9223, 9235, 9247, 9259, 9271, 9283, 9295, 9307],
   [9319, 9331, 9343, 9355, 9367, 9379, 9391, 9403, 9416, 9428, 9440, 9452, 9464, 9476, 9488, 9500]]

/-- Q[768] to Q[1023], sixteen entries a row as in the table of R84. -/
def sineBlock3 : List (List Nat) :=
  [[9512, 9524, 9536, 9548, 9560, 9572, 9584, 9596, 9608, 9620, 9632, 9644, 9656, 9668, 9680, 9692],
   [9704, 9716, 9728, 9740, 9752, 9764, 9776, 9788, 9800, 9812, 9824, 9836, 9848, 9860, 9872, 9884],
   [9896, 9908, 9920, 9932, 9944, 9956, 9968, 9980, 9992, 10004, 10016, 10028, 10039, 10051, 10063, 10075],
   [10087, 10099, 10111, 10123, 10135, 10147, 10159, 10171, 10183, 10195, 10207, 10219, 10231, 10243, 10255, 10266],
   [10278, 10290, 10302, 10314, 10326, 10338, 10350, 10362, 10374, 10386, 10398, 10410, 10421, 10433, 10445, 10457],
   [10469, 10481, 10493, 10505, 10517, 10529, 10541, 10552, 10564, 10576, 10588, 10600, 10612, 10624, 10636, 10648],
   [10659, 10671, 10683, 10695, 10707, 10719, 10731, 10743, 10754, 10766, 10778, 10790, 10802, 10814, 10826, 10838],
   [10849, 10861, 10873, 10885, 10897, 10909, 10920, 10932, 10944, 10956, 10968, 10980, 10992, 11003, 11015, 11027],
   [11039, 11051, 11063, 11074, 11086, 11098, 11110, 11122, 11133, 11145, 11157, 11169, 11181, 11193, 11204, 11216],
   [11228, 11240, 11252, 11263, 11275, 11287, 11299, 11311, 11322, 11334, 11346, 11358, 11370, 11381, 11393, 11405],
   [11417, 11428, 11440, 11452, 11464, 11476, 11487, 11499, 11511, 11523, 11534, 11546, 11558, 11570, 11581, 11593],
   [11605, 11617, 11628, 11640, 11652, 11664, 11675, 11687, 11699, 11711, 11722, 11734, 11746, 11758, 11769, 11781],
   [11793, 11804, 11816, 11828, 11840, 11851, 11863, 11875, 11886, 11898, 11910, 11922, 11933, 11945, 11957, 11968],
   [11980, 11992, 12003, 12015, 12027, 12038, 12050, 12062, 12074, 12085, 12097, 12109, 12120, 12132, 12144, 12155],
   [12167, 12179, 12190, 12202, 12214, 12225, 12237, 12249, 12260, 12272, 12284, 12295, 12307, 12318, 12330, 12342],
   [12353, 12365, 12377, 12388, 12400, 12412, 12423, 12435, 12446, 12458, 12470, 12481, 12493, 12505, 12516, 12528]]

/-- Q[1024] to Q[1279], sixteen entries a row as in the table of R84. -/
def sineBlock4 : List (List Nat) :=
  [[12539, 12551, 12563, 12574, 12586, 12597, 12609, 12621, 12632, 12644, 12655, 12667, 12679, 12690, 12702, 12713],
   [12725, 12736, 12748, 12760, 12771, 12783, 12794, 12806, 12817, 12829, 12841, 12852, 12864, 12875, 12887, 12898],
   [12910, 12921, 12933, 12945, 12956, 12968, 12979, 12991, 13002, 13014, 13025, 13037, 13048, 13060, 13071, 13083],
   [13094, 13106, 13118, 13129, 13141, 13152, 13164, 13175, 13187, 13198, 13210, 13221, 13233, 13244, 13256, 13267],
   [13279, 13290, 13302, 13313, 13324, 13336, 13347, 13359, 13370, 13382, 13393, 13405, 13416, 13428, 13439, 13451],
   [13462, 13474, 13485, 13496, 13508, 13519, 13531, 13542, 13554, 13565, 13577, 13588, 13599, 13611, 13622, 13634],
   [13645, 13657, 13668, 13679, 13691, 13702, 13714, 13725, 13736, 13748, 13759, 13771, 13782, 13793, 13805, 13816],
   [13828, 13839, 13850, 13862, 13873, 13885, 13896, 13907, 13919, 13930, 13942, 13953, 13964, 13976, 13987, 13998],
   [14010, 14021, 14032, 14044, 14055, 14066, 14078, 14089, 14101, 14112, 14123, 14135, 14146, 14157, 14169, 14180],
   [14191, 14203, 14214, 14225, 14236, 14248, 14259, 14270, 14282, 14293, 14304, 14316, 14327, 14338, 14350, 14361],
   [14372, 14383, 14395, 14406, 14417, 14429, 14440, 14451, 14462, 14474, 14485, 14496, 14507, 14519, 14530, 14541],
   [14553, 14564, 14575, 14586, 14598, 14609, 14620, 14631, 14643, 14654, 14665, 14676, 14688, 14699, 14710, 14721],
   [14732, 14744, 14755, 14766, 14777, 14789, 14800, 14811, 14822, 14833, 14845, 14856, 14867, 14878, 14889, 14901],
   [14912, 14923, 14934, 14945, 14956, 14968, 14979, 14990, 15001, 15012, 15024, 15035, 15046, 15057, 15068, 15079],
   [15090, 15102, 15113, 15124, 15135, 15146, 15157, 15168, 15180, 15191, 15202, 15213, 15224, 15235, 15246, 15258],
   [15269, 15280, 15291, 15302, 15313, 15324, 15335, 15346, 15358, 15369, 15380, 15391, 15402, 15413, 15424, 15435]]

/-- Q[1280] to Q[1535], sixteen entries a row as in the table of R84. -/
def sineBlock5 : List (List Nat) :=
  [[15446, 15457, 15468, 15479, 15491, 15502, 15513, 15524, 15535, 15546, 15557, 15568, 15579, 15590, 15601, 15612],
   [15623, 15634, 15645, 15656, 15667, 15678, 15690, 15701, 15712, 15723, 15734, 15745, 15756, 15767, 15778, 15789],
   [15800, 15811, 15822, 15833, 15844, 15855, 15866, 15877, 15888, 15899, 15910, 15921, 15932, 15943, 15954, 15965],
   [15976, 15987, 15997, 16008, 16019, 16030, 16041, 16052, 16063, 16074, 16085, 16096, 16107, 16118, 16129, 16140],
   [16151, 16162, 16173, 16184, 16195, 16205, 16216, 16227, 16238, 16249, 16260, 16271, 16282, 16293, 16304, 16315],
   [16325, 16336, 16347, 16358, 16369, 16380, 16391, 16402, 16413, 16423, 16434, 16445, 16456, 16467, 16478, 16489],
   [16499, 16510, 16521, 16532, 16543, 16554, 16565, 16575, 16586, 16597, 16608, 16619, 16630, 16640, 16651, 16662],
   [16673, 16684, 16694, 16705, 16716, 16727, 16738, 16749, 16759, 16770, 16781, 16792, 16802, 16813, 16824, 16835],
   [16846, 16856, 16867, 16878, 16889, 16899, 16910, 16921, 16932, 16943, 16953, 16964, 16975, 16986, 16996, 17007],
   [17018, 17028, 17039, 17050, 17061, 17071, 17082, 17093, 17104, 17114, 17125, 17136, 17146, 17157, 17168, 17179],
   [17189, 17200, 17211, 17221, 17232, 17243, 17253, 17264, 17275, 17285, 17296, 17307, 17317, 17328, 17339, 17349],
   [17360, 17371, 17381, 17392, 17403, 17413, 17424, 17435, 17445, 17456, 17467, 17477, 17488, 17498, 17509, 17520],
   [17530, 17541, 17551, 17562, 17573, 17583, 17594, 17605, 17615, 17626, 17636, 17647, 17657, 17668, 17679, 17689],
   [17700, 17710, 17721, 17732, 17742, 17753, 17763, 17774, 17784, 17795, 17805, 17816, 17827, 17837, 17848, 17858],
   [17869, 17879, 17890, 17900, 17911, 17921, 17932, 17942, 17953, 17963, 17974, 17984, 17995, 18005, 18016, 18026],
   [18037, 18047, 18058, 18068, 18079, 18089, 18100, 18110, 18121, 18131, 18142, 18152, 18163, 18173, 18183, 18194]]

/-- Q[1536] to Q[1791], sixteen entries a row as in the table of R84. -/
def sineBlock6 : List (List Nat) :=
  [[18204, 18215, 18225, 18236, 18246, 18257, 18267, 18277, 18288, 18298, 18309, 18319, 18330, 18340, 18350, 18361],
   [18371, 18382, 18392, 18402, 18413, 18423, 18434, 18444, 18454, 18465, 18475, 18485, 18496, 18506, 18517, 18527],
   [18537, 18548, 18558, 18568, 18579, 18589, 18599, 18610, 18620, 18630, 18641, 18651, 18661, 18672, 18682, 18692],
   [18703, 18713, 18723, 18734, 18744, 18754, 18765, 18775, 18785, 18796, 18806, 18816, 18826, 18837, 18847, 18857],
   [18868, 18878, 18888, 18898, 18909, 18919, 18929, 18939, 18950, 18960, 18970, 18980, 18991, 19001, 19011, 19021],
   [19032, 19042, 19052, 19062, 19072, 19083, 19093, 19103, 19113, 19123, 19134, 19144, 19154, 19164, 19174, 19185],
   [19195, 19205, 19215, 19225, 19236, 19246, 19256, 19266, 19276, 19286, 19297, 19307, 19317, 19327, 19337, 19347],
   [19357, 19368, 19378, 19388, 19398, 19408, 19418, 19428, 19438, 19449, 19459, 19469, 19479, 19489, 19499, 19509],
   [19519, 19529, 19539, 19550, 19560, 19570, 19580, 19590, 19600, 19610, 19620, 19630, 19640, 19650, 19660, 19670],
   [19680, 19690, 19700, 19711, 19721, 19731, 19741, 19751, 19761, 19771, 19781, 19791, 19801, 19811, 19821, 19831],
   [19841, 19851, 19861, 19871, 19881, 19891, 19901, 19911, 19921, 19931, 19941, 19951, 19961, 19971, 19981, 19990],
   [20000, 20010, 20020, 20030, 20040, 20050, 20060, 20070, 20080, 20090, 20100, 20110, 20120, 20130, 20139, 20149],
   [20159, 20169, 20179, 20189, 20199, 20209, 20219, 20229, 20238, 20248, 20258, 20268, 20278, 20288, 20298, 20308],
   [20317, 20327, 20337, 20347, 20357, 20367, 20377, 20386, 20396, 20406, 20416, 20426, 20436, 20445, 20455, 20465],
   [20475, 20485, 20494, 20504, 20514, 20524, 20534, 20543, 20553, 20563, 20573, 20583, 20592, 20602, 20612, 20622],
   [20631, 20641, 20651, 20661, 20670, 20680, 20690, 20700, 20709, 20719, 20729, 20739, 20748, 20758, 20768, 20777]]

/-- Q[1792] to Q[2047], sixteen entries a row as in the table of R84. -/
def sineBlock7 : List (List Nat) :=
  [[20787, 20797, 20807, 20816, 20826, 20836, 20845, 20855, 20865, 20874, 20884, 20894, 20904, 20913, 20923, 20933],
   [20942, 20952, 20962, 20971, 20981, 20990, 21000, 21010, 21019, 21029, 21039, 21048, 21058, 21068, 21077, 21087],
   [21096, 21106, 21116, 21125, 21135, 21144, 21154, 21164, 21173, 21183, 21192, 21202, 21212, 21221, 21231, 21240],
   [21250, 21259, 21269, 21279, 21288, 21298, 21307, 21317, 21326, 21336, 21345, 21355, 21364, 21374, 21383, 21393],
   [21403, 21412, 21422, 21431, 21441, 21450, 21460, 21469, 21479, 21488, 21498, 21507, 21516, 21526, 21535, 21545],
   [21554, 21564, 21573, 21583, 21592, 21602, 21611, 21621, 21630, 21639, 21649, 21658, 21668, 21677, 21687, 21696],
   [21705, 21715, 21724, 21734, 21743, 21752, 21762, 21771, 21781, 21790, 21799, 21809, 21818, 21827, 21837, 21846],
   [21856, 21865, 21874, 21884, 21893, 21902, 21912, 21921, 21930, 21940, 21949, 21958, 21968, 21977, 21986, 21996],
   [22005, 22014, 22024, 22033, 22042, 22051, 22061, 22070, 22079, 22089, 22098, 22107, 22116, 22126, 22135, 22144],
   [22154, 22163, 22172, 22181, 22191, 22200, 22209, 22218, 22227, 22237, 22246, 22255, 22264, 22274, 22283, 22292],
   [22301, 22310, 22320, 22329, 22338, 22347, 22356, 22366, 22375, 22384, 22393, 22402, 22411, 22421, 22430, 22439],
   [22448, 22457, 22466, 22476, 22485, 22494, 22503, 22512, 22521, 22530, 22540, 22549, 22558, 22567, 22576, 22585],
   [22594, 22603, 22612, 22621, 22631, 22640, 22649, 22658, 22667, 22676, 22685, 22694, 22703, 22712, 22721, 22730],
   [22739, 22748, 22757, 22766, 22776, 22785, 22794, 22803, 22812, 22821, 22830, 22839, 22848, 22857, 22866, 22875],
   [22884, 22893, 22902, 22911, 22920, 22929, 22938, 22947, 22956, 22965, 22973, 22982, 22991, 23000, 23009, 23018],
   [23027, 23036, 23045, 23054, 23063, 23072, 23081, 23090, 23099, 23107, 23116, 23125, 23134, 23143, 23152, 23161]]

/-- Q[2048] to Q[2303], sixteen entries a row as in the table of R84. -/
def sineBlock8 : List (List Nat) :=
  [[23170, 23179, 23188, 23196, 23205, 23214, 23223, 23232, 23241, 23250, 23258, 23267, 23276, 23285, 23294, 23303],
   [23311, 23320, 23329, 23338, 23347, 23356, 23364, 23373, 23382, 23391, 23400, 23408, 23417, 23426, 23435, 23444],
   [23452, 23461, 23470, 23479, 23487, 23496, 23505, 23514, 23522, 23531, 23540, 23549, 23557, 23566, 23575, 23584],
   [23592, 23601, 23610, 23618, 23627, 23636, 23645, 23653, 23662, 23671, 23679, 23688, 23697, 23705, 23714, 23723],
   [23731, 23740, 23749, 23757, 23766, 23775, 23783, 23792, 23801, 23809, 23818, 23827, 23835, 23844, 23852, 23861],
   [23870, 23878, 23887, 23895, 23904, 23913, 23921, 23930, 23938, 23947, 23956, 23964, 23973, 23981, 23990, 23998],
   [24007, 24015, 24024, 24033, 24041, 24050, 24058, 24067, 24075, 24084, 24092, 24101, 24109, 24118, 24126, 24135],
   [24143, 24152, 24160, 24169, 24177, 24186, 24194, 24203, 24211, 24220, 24228, 24237, 24245, 24253, 24262, 24270],
   [24279, 24287, 24296, 24304, 24312, 24321, 24329, 24338, 24346, 24355, 24363, 24371, 24380, 24388, 24397, 24405],
   [24413, 24422, 24430, 24438, 24447, 24455, 24464, 24472, 24480, 24489, 24497, 24505, 24514, 24522, 24530, 24539],
   [24547, 24555, 24564, 24572, 24580, 24589, 24597, 24605, 24613, 24622, 24630, 24638, 24647, 24655, 24663, 24671],
   [24680, 24688, 24696, 24704, 24713, 24721, 24729, 24737, 24746, 24754, 24762, 24770, 24779, 24787, 24795, 24803],
   [24811, 24820, 24828, 24836, 24844, 24852, 24861, 24869, 24877, 24885, 24893, 24902, 24910, 24918, 24926, 24934],
   [24942, 24950, 24959, 24967, 24975, 24983, 24991, 24999, 25007, 25016, 25024, 25032, 25040, 25048, 25056, 25064],
   [25072, 25080, 25088, 25096, 25105, 25113, 25121, 25129, 25137, 25145, 25153, 25161, 25169, 25177, 25185, 25193],
   [25201, 25209, 25217, 25225, 25233, 25241, 25249, 25257, 25265, 25273, 25281, 25289, 25297, 25305, 25313, 25321]]

/-- Q[2304] to Q[2559], sixteen entries a row as in the table of R84. -/
def sineBlock9 : List (List Nat) :=
  [[25329, 25337, 25345, 25353, 25361, 25369, 25377, 25385, 25393, 25401, 25409, 25417, 25425, 25433, 25440, 25448],
   [25456, 25464, 25472, 25480, 25488, 25496, 25504, 25512, 25519, 25527, 25535, 25543, 25551, 25559, 25567, 25575],
   [25582, 25590, 25598, 25606, 25614, 25622, 25629, 25637, 25645, 25653, 25661, 25669, 25676, 25684, 25692, 25700],
   [25708, 25715, 25723, 25731, 25739, 25746, 25754, 25762, 25770, 25778, 25785, 25793, 25801, 25809, 25816, 25824],
   [25832, 25839, 25847, 25855, 25863, 25870, 25878, 25886, 25893, 25901, 25909, 25917, 25924, 25932, 25940, 25947],
   [25955, 25963, 25970, 25978, 25986, 25993, 26001, 26009, 26016, 26024, 26031, 26039, 26047, 26054, 26062, 26070],
   [26077, 26085, 26092, 26100, 26108, 26115, 26123, 26130, 26138, 26146, 26153, 26161, 26168, 26176, 26183, 26191],
   [26198, 26206, 26214, 26221, 26229, 26236, 26244, 26251, 26259, 26266, 26274, 26281, 26289, 26296, 26304, 26311],
   [26319, 26326, 26334, 26341, 26349, 26356, 26364, 26371, 26378, 26386, 26393, 26401, 26408, 26416, 26423, 26431],
   [26438, 26445, 26453, 26460, 26468, 26475, 26482, 26490, 26497, 26505, 26512, 26519, 26527, 26534, 26542, 26549],
   [26556, 26564, 26571, 26578, 26586, 26593, 26600, 26608, 26615, 26622, 26630, 26637, 26644, 26652, 26659, 26666],
   [26674, 26681, 26688, 26695, 26703, 26710, 26717, 26725, 26732, 26739, 26746, 26754, 26761, 26768, 26775, 26783],
   [26790, 26797, 26804, 26811, 26819, 26826, 26833, 26840, 26848, 26855, 26862, 26869, 26876, 26884, 26891, 26898],
   [26905, 26912, 26919, 26927, 26934, 26941, 26948, 26955, 26962, 26969, 26977, 26984, 26991, 26998, 27005, 27012],
   [27019, 27026, 27034, 27041, 27048, 27055, 27062, 27069, 27076, 27083, 27090, 27097, 27104, 27111, 27118, 27126],
   [27133, 27140, 27147, 27154, 27161, 27168, 27175, 27182, 27189, 27196, 27203, 27210, 27217, 27224, 27231, 27238]]

/-- Q[2560] to Q[2815], sixteen entries a row as in the table of R84. -/
def sineBlock10 : List (List Nat) :=
  [[27245, 27252, 27259, 27266, 27273, 27280, 27287, 27294, 27300, 27307, 27314, 27321, 27328, 27335, 27342, 27349],
   [27356, 27363, 27370, 27377, 27384, 27390, 27397, 27404, 27411, 27418, 27425, 27432, 27439, 27446, 27452, 27459],
   [27466, 27473, 27480, 27487, 27493, 27500, 27507, 27514, 27521, 27528, 27534, 27541, 27548, 27555, 27562, 27568],
   [27575, 27582, 27589, 27596, 27602, 27609, 27616, 27623, 27629, 27636, 27643, 27650, 27656, 27663, 27670, 27677],
   [27683, 27690, 27697, 27703, 27710, 27717, 27724, 27730, 27737, 27744, 27750, 27757, 27764, 27770, 27777, 27784],
   [27790, 27797, 27804, 27810, 27817, 27824, 27830, 27837, 27843, 27850, 27857, 27863, 27870, 27877, 27883, 27890],
   [27896, 27903, 27910, 27916, 27923, 27929, 27936, 27942, 27949, 27956, 27962, 27969, 27975, 27982, 27988, 27995],
   [28001, 28008, 28014, 28021, 28027, 28034, 28040, 28047, 28053, 28060, 28066, 28073, 28079, 28086, 28092, 28099],
   [28105, 28112, 28118, 28125, 28131, 28137, 28144, 28150, 28157, 28163, 28170, 28176, 28182, 28189, 28195, 28202],
   [28208, 28214, 28221, 28227, 28234, 28240, 28246, 28253, 28259, 28265, 28272, 28278, 28284, 28291, 28297, 28303],
   [28310, 28316, 28322, 28329, 28335, 28341, 28348, 28354, 28360, 28367, 28373, 28379, 28385, 28392, 28398, 28404],
   [28411, 28417, 28423, 28429, 28436, 28442, 28448, 28454, 28460, 28467, 28473, 28479, 28485, 28492, 28498, 28504],
   [28510, 28516, 28523, 28529, 28535, 28541, 28547, 28553, 28560, 28566, 28572, 28578, 28584, 28590, 28596, 28603],
   [28609, 28615, 28621, 28627, 28633, 28639, 28645, 28651, 28658, 28664, 28670, 28676, 28682, 28688, 28694, 28700],
   [28706, 28712, 28718, 28724, 28730, 28736, 28742, 28748, 28755, 28761, 28767, 28773, 28779, 28785, 28791, 28797],
   [28803, 28809, 28815, 28821, 28827, 28832, 28838, 28844, 28850, 28856, 28862, 28868, 28874, 28880, 28886, 28892]]

/-- Q[2816] to Q[3071], sixteen entries a row as in the table of R84. -/
def sineBlock11 : List (List Nat) :=
  [[28898, 28904, 28910, 28916, 28922, 28927, 28933, 28939, 28945, 28951, 28957, 28963, 28969, 28975, 28980, 28986],
   [28992, 28998, 29004, 29010, 29016, 29021, 29027, 29033, 29039, 29045, 29050, 29056, 29062, 29068, 29074, 29079],
   [29085, 29091, 29097, 29103, 29108, 29114, 29120, 29126, 29131, 29137, 29143, 29149, 29154, 29160, 29166, 29172],
   [29177, 29183, 29189, 29194, 29200, 29206, 29212, 29217, 29223, 29229, 29234, 29240, 29246, 29251, 29257, 29263],
   [29268, 29274, 29280, 29285, 29291, 29296, 29302, 29308, 29313, 29319, 29325, 29330, 29336, 29341, 29347, 29353],
   [29358, 29364, 29369, 29375, 29380, 29386, 29392, 29397, 29403, 29408, 29414, 29419, 29425, 29430, 29436, 29441],
   [29447, 29452, 29458, 29463, 29469, 29474, 29480, 29485, 29491, 29496, 29502, 29507, 29513, 29518, 29524, 29529],
   [29534, 29540, 29545, 29551, 29556, 29562, 29567, 29572, 29578, 29583, 29589, 29594, 29599, 29605, 29610, 29616],
   [29621, 29626, 29632, 29637, 29642, 29648, 29653, 29659, 29664, 29669, 29675, 29680, 29685, 29690, 29696, 29701],
   [29706, 29712, 29717, 29722, 29728, 29733, 29738, 29743, 29749, 29754, 29759, 29764, 29770, 29775, 29780, 29785],
   [29791, 29796, 29801, 29806, 29812, 29817, 29822, 29827, 29832, 29838, 29843, 29848, 29853, 29858, 29864, 29869],
   [29874, 29879, 29884, 29889, 29894, 29900, 29905, 29910, 29915, 29920, 29925, 29930, 29936, 29941, 29946, 29951],
   [29956, 29961, 29966, 29971, 29976, 29981, 29986, 29991, 29997, 30002, 30007, 30012, 30017, 30022, 30027, 30032],
   [30037, 30042, 30047, 30052, 30057, 30062, 30067, 30072, 30077, 30082, 30087, 30092, 30097, 30102, 30107, 30112],
   [30117, 30122, 30126, 30131, 30136, 30141, 30146, 30151, 30156, 30161, 30166, 30171, 30176, 30181, 30185, 30190],
   [30195, 30200, 30205, 30210, 30215, 30220, 30224, 30229, 30234, 30239, 30244, 30249, 30253, 30258, 30263, 30268]]

/-- Q[3072] to Q[3327], sixteen entries a row as in the table of R84. -/
def sineBlock12 : List (List Nat) :=
  [[30273, 30278, 30282, 30287, 30292, 30297, 30302, 30306, 30311, 30316, 30321, 30325, 30330, 30335, 30340, 30344],
   [30349, 30354, 30359, 30363, 30368, 30373, 30377, 30382, 30387, 30392, 30396, 30401, 30406, 30410, 30415, 30420],
   [30424, 30429, 30434, 30438, 30443, 30448, 30452, 30457, 30462, 30466, 30471, 30475, 30480, 30485, 30489, 30494],
   [30498, 30503, 30508, 30512, 30517, 30521, 30526, 30530, 30535, 30540, 30544, 30549, 30553, 30558, 30562, 30567],
   [30571, 30576, 30580, 30585, 30589, 30594, 30598, 30603, 30607, 30612, 30616, 30621, 30625, 30630, 30634, 30639],
   [30643, 30648, 30652, 30656, 30661, 30665, 30670, 30674, 30679, 30683, 30687, 30692, 30696, 30701, 30705, 30709],
   [30714, 30718, 30723, 30727, 30731, 30736, 30740, 30744, 30749, 30753, 30757, 30762, 30766, 30770, 30775, 30779],
   [30783, 30788, 30792, 30796, 30800, 30805, 30809, 30813, 30818, 30822, 30826, 30830, 30835, 30839, 30843, 30847],
   [30852, 30856, 30860, 30864, 30868, 30873, 30877, 30881, 30885, 30889, 30894, 30898, 30902, 30906, 30910, 30915],
   [30919, 30923, 30927, 30931, 30935, 30939, 30944, 30948, 30952, 30956, 30960, 30964, 30968, 30972, 30977, 30981],
   [30985, 30989, 30993, 30997, 31001, 31005, 31009, 31013, 31017, 31021, 31025, 31029, 31033, 31037, 31041, 31046],
   [31050, 31054, 31058, 31062, 31066, 31070, 31074, 31078, 31082, 31085, 31089, 31093, 31097, 31101, 31105, 31109],
   [31113, 31117, 31121, 31125, 31129, 31133, 31137, 31141, 31145, 31148, 31152, 31156, 31160, 31164, 31168, 31172],
   [31176, 31180, 31183, 31187, 31191, 31195, 31199, 31203, 31206, 31210, 31214, 31218, 31222, 31226, 31229, 31233],
   [31237, 31241, 31245, 31248, 31252, 31256, 31260, 31263, 31267, 31271, 31275, 31278, 31282, 31286, 31290, 31293],
   [31297, 31301, 31305, 31308, 31312, 31316, 31319, 31323, 31327, 31330, 31334, 31338, 31341, 31345, 31349, 31352]]

/-- Q[3328] to Q[3583], sixteen entries a row as in the table of R84. -/
def sineBlock13 : List (List Nat) :=
  [[31356, 31360, 31363, 31367, 31371, 31374, 31378, 31381, 31385, 31389, 31392, 31396, 31400, 31403, 31407, 31410],
   [31414, 31417, 31421, 31425, 31428, 31432, 31435, 31439, 31442, 31446, 31449, 31453, 31456, 31460, 31463, 31467],
   [31470, 31474, 31477, 31481, 31484, 31488, 31491, 31495, 31498, 31502, 31505, 31509, 31512, 31516, 31519, 31522],
   [31526, 31529, 31533, 31536, 31539, 31543, 31546, 31550, 31553, 31556, 31560, 31563, 31567, 31570, 31573, 31577],
   [31580, 31583, 31587, 31590, 31593, 31597, 31600, 31603, 31607, 31610, 31613, 31617, 31620, 31623, 31627, 31630],
   [31633, 31636, 31640, 31643, 31646, 31649, 31653, 31656, 31659, 31662, 31666, 31669, 31672, 31675, 31679, 31682],
   [31685, 31688, 31691, 31695, 31698, 31701, 31704, 31707, 31710, 31714, 31717, 31720, 31723, 31726, 31729, 31732],
   [31736, 31739, 31742, 31745, 31748, 31751, 31754, 31757, 31760, 31764, 31767, 31770, 31773, 31776, 31779, 31782],
   [31785, 31788, 31791, 31794, 31797, 31800, 31803, 31806, 31809, 31812, 31815, 31818, 31821, 31824, 31827, 31830],
   [31833, 31836, 31839, 31842, 31845, 31848, 31851, 31854, 31857, 31860, 31863, 31866, 31869, 31872, 31875, 31877],
   [31880, 31883, 31886, 31889, 31892, 31895, 31898, 31901, 31903, 31906, 31909, 31912, 31915, 31918, 31921, 31923],
   [31926, 31929, 31932, 31935, 31937, 31940, 31943, 31946, 31949, 31951, 31954, 31957, 31960, 31963, 31965, 31968],
   [31971, 31974, 31976, 31979, 31982, 31985, 31987, 31990, 31993, 31995, 31998, 32001, 32004, 32006, 32009, 32012],
   [32014, 32017, 32020, 32022, 32025, 32028, 32030, 32033, 32036, 32038, 32041, 32043, 32046, 32049, 32051, 32054],
   [32057, 32059, 32062, 32064, 32067, 32069, 32072, 32075, 32077, 32080, 32082, 32085, 32087, 32090, 32092, 32095],
   [32098, 32100, 32103, 32105, 32108, 32110, 32113, 32115, 32118, 32120, 32123, 32125, 32128, 32130, 32132, 32135]]

/-- Q[3584] to Q[3839], sixteen entries a row as in the table of R84. -/
def sineBlock14 : List (List Nat) :=
  [[32137, 32140, 32142, 32145, 32147, 32150, 32152, 32154, 32157, 32159, 32162, 32164, 32166, 32169, 32171, 32174],
   [32176, 32178, 32181, 32183, 32185, 32188, 32190, 32193, 32195, 32197, 32200, 32202, 32204, 32206, 32209, 32211],
   [32213, 32216, 32218, 32220, 32223, 32225, 32227, 32229, 32232, 32234, 32236, 32238, 32241, 32243, 32245, 32247],
   [32250, 32252, 32254, 32256, 32258, 32261, 32263, 32265, 32267, 32269, 32272, 32274, 32276, 32278, 32280, 32282],
   [32285, 32287, 32289, 32291, 32293, 32295, 32297, 32300, 32302, 32304, 32306, 32308, 32310, 32312, 32314, 32316],
   [32318, 32320, 32322, 32325, 32327, 32329, 32331, 32333, 32335, 32337, 32339, 32341, 32343, 32345, 32347, 32349],
   [32351, 32353, 32355, 32357, 32359, 32361, 32363, 32365, 32367, 32369, 32371, 32373, 32375, 32376, 32378, 32380],
   [32382, 32384, 32386, 32388, 32390, 32392, 32394, 32396, 32397, 32399, 32401, 32403, 32405, 32407, 32409, 32411],
   [32412, 32414, 32416, 32418, 32420, 32422, 32423, 32425, 32427, 32429, 32431, 32432, 32434, 32436, 32438, 32439],
   [32441, 32443, 32445, 32447, 32448, 32450, 32452, 32453, 32455, 32457, 32459, 32460, 32462, 32464, 32466, 32467],
   [32469, 32471, 32472, 32474, 32476, 32477, 32479, 32481, 32482, 32484, 32486, 32487, 32489, 32490, 32492, 32494],
   [32495, 32497, 32499, 32500, 32502, 32503, 32505, 32507, 32508, 32510, 32511, 32513, 32514, 32516, 32517, 32519],
   [32521, 32522, 32524, 32525, 32527, 32528, 32530, 32531, 32533, 32534, 32536, 32537, 32539, 32540, 32542, 32543],
   [32545, 32546, 32547, 32549, 32550, 32552, 32553, 32555, 32556, 32558, 32559, 32560, 32562, 32563, 32565, 32566],
   [32567, 32569, 32570, 32571, 32573, 32574, 32576, 32577, 32578, 32580, 32581, 32582, 32584, 32585, 32586, 32588],
   [32589, 32590, 32592, 32593, 32594, 32595, 32597, 32598, 32599, 32600, 32602, 32603, 32604, 32606, 32607, 32608]]

/-- Q[3840] to Q[4095], sixteen entries a row as in the table of R84. -/
def sineBlock15 : List (List Nat) :=
  [[32609, 32610, 32612, 32613, 32614, 32615, 32617, 32618, 32619, 32620, 32621, 32622, 32624, 32625, 32626, 32627],
   [32628, 32629, 32631, 32632, 32633, 32634, 32635, 32636, 32637, 32639, 32640, 32641, 32642, 32643, 32644, 32645],
   [32646, 32647, 32648, 32649, 32650, 32652, 32653, 32654, 32655, 32656, 32657, 32658, 32659, 32660, 32661, 32662],
   [32663, 32664, 32665, 32666, 32667, 32668, 32669, 32670, 32671, 32672, 32673, 32674, 32674, 32675, 32676, 32677],
   [32678, 32679, 32680, 32681, 32682, 32683, 32684, 32685, 32685, 32686, 32687, 32688, 32689, 32690, 32691, 32692],
   [32692, 32693, 32694, 32695, 32696, 32697, 32697, 32698, 32699, 32700, 32701, 32701, 32702, 32703, 32704, 32705],
   [32705, 32706, 32707, 32708, 32708, 32709, 32710, 32711, 32711, 32712, 32713, 32714, 32714, 32715, 32716, 32716],
   [32717, 32718, 32718, 32719, 32720, 32720, 32721, 32722, 32722, 32723, 32724, 32724, 32725, 32726, 32726, 32727],
   [32728, 32728, 32729, 32729, 32730, 32731, 32731, 32732, 32732, 32733, 32733, 32734, 32735, 32735, 32736, 32736],
   [32737, 32737, 32738, 32738, 32739, 32739, 32740, 32740, 32741, 32741, 32742, 32742, 32743, 32743, 32744, 32744],
   [32745, 32745, 32746, 32746, 32747, 32747, 32747, 32748, 32748, 32749, 32749, 32750, 32750, 32750, 32751, 32751],
   [32752, 32752, 32752, 32753, 32753, 32753, 32754, 32754, 32755, 32755, 32755, 32756, 32756, 32756, 32757, 32757],
   [32757, 32757, 32758, 32758, 32758, 32759, 32759, 32759, 32759, 32760, 32760, 32760, 32760, 32761, 32761, 32761],
   [32761, 32762, 32762, 32762, 32762, 32763, 32763, 32763, 32763, 32763, 32764, 32764, 32764, 32764, 32764, 32764],
   [32765, 32765, 32765, 32765, 32765, 32765, 32765, 32765, 32766, 32766, 32766, 32766, 32766, 32766, 32766, 32766],
   [32766, 32766, 32767, 32767, 32767, 32767, 32767, 32767, 32767, 32767, 32767, 32767, 32767, 32767, 32767, 32767]]

/-- The ROM without its last entry, in blocks of 256 entries. -/
def sineBlocks : List (List (List Nat)) :=
  [sineBlock0, sineBlock1, sineBlock2, sineBlock3] ++ [sineBlock4, sineBlock5, sineBlock6, sineBlock7]
    ++ [sineBlock8, sineBlock9, sineBlock10, sineBlock11] ++ [sineBlock12, sineBlock13, sineBlock14, sineBlock15]

/-- Q[j] of R84 for j from 0 to 4096; the last row of the table holds Q[4096] alone. -/
def romQ (j : Nat) : Nat :=
  if 4096 ≤ j then 32767
  else ((sineBlocks.getD (j / 256) []).getD (j / 16 % 16) []).getD (j % 16) 0

end Sys2Proof.Machine
end

