-- ==== Sys2Proof/Machine/SineBound.lean ====
section
/-! DEFINITION. The sine ROM is less than 1/2 from the exact sine (R83, S3 of R63), so that R63 admits at least one
implementation; Machine/Sine.lean needs that for the free value of a CORDIC.

The proof walks the quarter wave: (c, s) are the cosine and sine of j steps, scaled by 2^64 and rounded down, and one
step turns them by 2π/16384. Each keeps within e of the exact value, e grows by a known amount, and at each j the walk
compares s with the ROM entry. -/

namespace Sys2Proof.Machine

/-- The scale of the walk. -/
def rotScale : Nat := 2 ^ 64

/-- The cosine of one step, scaled and rounded. -/
def rotCos : Nat := 18446742717241468172

/-- The sine of one step, scaled and rounded. -/
def rotSin : Nat := 7074237578628774

/-- A scaled sine `s`, known within `e`, is less than 1/2 from the entry `q`. -/
def romAgrees (q s e : Nat) : Bool :=
  decide (65534 * s + 65534 * e < rotScale + 2 * q * rotScale)
    && decide (2 * q * rotScale + 65534 * e < rotScale + 65534 * s)

/-- `n` entries of the ROM from entry `j` on agree with the walk that stands at (c, s). The test of `c` is always met; it
makes an evaluation finish each step before the next. -/
def romWalk : Nat → Nat → Nat → Nat → Nat → Bool
  | 0, _, _, _, _ => true
  | n + 1, j, c, s, e =>
    decide (c ≤ 2 * rotScale) && romAgrees (romQ j) s e
      && romWalk n (j + 1) ((c * rotCos - s * rotSin) / rotScale) ((s * rotCos + c * rotSin) / rotScale)
        (e * (rotCos + rotSin) / rotScale + 80002)

/-- The whole ROM but its last entry agrees with the walk. -/
theorem romWalk_all : romWalk 4096 0 rotScale 0 0 = true := by decide +kernel

/-- The step angle, from the known digits of π. -/
theorem step_bounds {x : ℝ} (hx : x = 2 * Real.pi / 16384) :
    0.000383495196971410307 < x ∧ x < 0.00038349519697141031 := by
  have h1 := Real.pi_gt_d20
  have h2 := Real.pi_lt_d20
  rw [hx]
  constructor
  · norm_num at h1 ⊢
    linarith
  · norm_num at h2 ⊢
    linarith

theorem rotCos_close {x : ℝ} (hx : x = 2 * Real.pi / 16384) : |(rotCos : ℝ) - rotScale * Real.cos x| ≤ 40000 := by
  obtain ⟨h1, h2⟩ := step_bounds hx
  have hp : 0 < x := by linarith
  have h := Real.cos_bound (x := x) (by rw [abs_of_pos hp]; linarith)
  rw [abs_of_pos hp] at h
  have h4 : x ^ 4 ≤ 0.00038349519697141031 ^ 4 := pow_le_pow_left₀ hp.le h2.le 4
  have h3 : x ^ 2 ≤ 0.00038349519697141031 ^ 2 := pow_le_pow_left₀ hp.le h2.le 2
  have h5 : 0.000383495196971410307 ^ 2 ≤ x ^ 2 := pow_le_pow_left₀ (by norm_num) h1.le 2
  rw [abs_le] at h ⊢
  obtain ⟨a, b⟩ := h
  simp only [rotCos, rotScale]
  push_cast
  norm_num at h3 h4 h5 ⊢
  constructor <;> linarith

theorem rotSin_close {x : ℝ} (hx : x = 2 * Real.pi / 16384) : |(rotSin : ℝ) - rotScale * Real.sin x| ≤ 40000 := by
  obtain ⟨h1, h2⟩ := step_bounds hx
  have hp : 0 < x := by linarith
  have h := Real.sin_bound (x := x) (by rw [abs_of_pos hp]; linarith)
  rw [abs_of_pos hp] at h
  have h4 : x ^ 5 ≤ 0.00038349519697141031 ^ 5 := pow_le_pow_left₀ hp.le h2.le 5
  have h3 : x ^ 3 ≤ 0.00038349519697141031 ^ 3 := pow_le_pow_left₀ hp.le h2.le 3
  have h5 : 0.000383495196971410307 ^ 3 ≤ x ^ 3 := pow_le_pow_left₀ (by norm_num) h1.le 3
  rw [abs_le] at h ⊢
  obtain ⟨a, b⟩ := h
  simp only [rotSin, rotScale]
  push_cast
  norm_num at h1 h2 h3 h4 h5 ⊢
  constructor <;> linarith

/-- One turn of the walk: the error of the turned cosine before it is rounded. The sine is the same with (s, -c). -/
theorem rot_step {u v c s e cc ss N d : ℝ} (hN : 0 < N) (hu : |u - N * c| ≤ e) (hv : |v - N * s| ≤ e)
    (hc : |c| ≤ 1) (hs : |s| ≤ 1) {C S : ℝ} (hC : |C - N * cc| ≤ d) (hS : |S - N * ss| ≤ d) (hC0 : 0 ≤ C) (hS0 : 0 ≤ S) :
    |(u * C - v * S) - N * (N * (c * cc - s * ss))| ≤ e * (C + S) + 2 * N * d := by
  have e1 : (u * C - v * S) - N * (N * (c * cc - s * ss))
      = (u - N * c) * C + N * (c * (C - N * cc)) - (v - N * s) * S - N * (s * (S - N * ss)) := by ring
  have b1 : |(u - N * c) * C| ≤ e * C := by
    rw [abs_mul, abs_of_nonneg hC0]; exact mul_le_mul_of_nonneg_right hu hC0
  have b2 : |(v - N * s) * S| ≤ e * S := by
    rw [abs_mul, abs_of_nonneg hS0]; exact mul_le_mul_of_nonneg_right hv hS0
  have d0 : 0 ≤ d := (abs_nonneg _).trans hC
  have b3 : |N * (c * (C - N * cc))| ≤ N * d := by
    rw [abs_mul, abs_mul, abs_of_pos hN]
    refine mul_le_mul_of_nonneg_left ?_ hN.le
    calc |c| * |C - N * cc| ≤ 1 * d := mul_le_mul hc hC (abs_nonneg _) zero_le_one
      _ = d := one_mul d
  have b4 : |N * (s * (S - N * ss))| ≤ N * d := by
    rw [abs_mul, abs_mul, abs_of_pos hN]
    refine mul_le_mul_of_nonneg_left ?_ hN.le
    calc |s| * |S - N * ss| ≤ 1 * d := mul_le_mul hs hS (abs_nonneg _) zero_le_one
      _ = d := one_mul d
  rw [e1]
  rw [abs_le] at *
  constructor <;> nlinarith [b1.1, b1.2, b2.1, b2.2, b3.1, b3.2, b4.1, b4.2]

/-- Rounding down a scaled value moves it by less than 1. -/
theorem floor_close {n N e : Nat} {z B : ℝ} (hN : 0 < N) (h : |(n : ℝ) - N * z| ≤ B) (hB : B / N + 1 ≤ e) :
    |((n / N : Nat) : ℝ) - z| ≤ e := by
  have hN' : (0 : ℝ) < N := by exact_mod_cast hN
  have h1 : ((n / N : Nat) : ℝ) * N ≤ n := by exact_mod_cast Nat.div_mul_le_self n N
  have h2 : (n : ℝ) < ((n / N : Nat) + 1 : ℝ) * N := by
    exact_mod_cast Nat.lt_mul_of_div_lt (Nat.lt_succ_self _) hN
  have hB' : B + N ≤ e * N := by
    have := mul_le_mul_of_nonneg_right hB hN'.le
    rwa [add_mul, div_mul_cancel₀ _ hN'.ne', one_mul] at this
  rw [abs_le] at *
  constructor
  · by_contra hc; push Not at hc; nlinarith
  · by_contra hc; push Not at hc; nlinarith

/-- A walk that agrees and starts near the exact cosine and sine keeps near them, so its ROM entries are less than 1/2
from the exact sine. -/
theorem romWalk_sound {x : ℝ} (hx : x = 2 * Real.pi / 16384) (n : Nat) : ∀ (j c s e : Nat), romWalk n j c s e = true → j + n ≤ 4096 →
    |(c : ℝ) - rotScale * Real.cos (j * x)| ≤ e → |(s : ℝ) - rotScale * Real.sin (j * x)| ≤ e →
    ∀ i, j ≤ i → i < j + n → |(romQ i : ℝ) - 32767 * Real.sin (i * x)| < 1 / 2 := by
  induction n with
  | zero => intro j c s e _ _ _ _ i h1 h2; omega
  | succ n ih =>
    intro j c s e h hj hc hs i h1 h2
    simp only [romWalk, Bool.and_eq_true] at h
    obtain ⟨⟨-, ht⟩, hw⟩ := h
    have hN : (0 : ℝ) < rotScale := by norm_num [rotScale]
    rcases Nat.eq_or_lt_of_le h1 with rfl | h1
    · simp only [romAgrees, Bool.and_eq_true, decide_eq_true_eq] at ht
      obtain ⟨t1, t2⟩ := ht
      have t1' : (65534 * s + 65534 * e : ℝ) < rotScale + 2 * romQ j * rotScale := by exact_mod_cast t1
      have t2' : (2 * romQ j * rotScale + 65534 * e : ℝ) < rotScale + 65534 * s := by exact_mod_cast t2
      rw [abs_le] at hs
      rw [abs_lt]
      constructor
      · by_contra hc; push Not at hc; nlinarith [hs.1, hs.2]
      · by_contra hc; push Not at hc; nlinarith [hs.1, hs.2]
    · have ej : ((j + 1 : Nat) : ℝ) * x = j * x + x := by push_cast; ring
      have hp : 0 < x := by linarith [(step_bounds hx).1]
      have hcos : 0 ≤ Real.cos (((j + 1 : Nat) : ℝ) * x) := by
        apply Real.cos_nonneg_of_neg_pi_div_two_le_of_le
        · have := Real.pi_pos; have : (0 : ℝ) ≤ ((j + 1 : Nat) : ℝ) * x := by positivity
          linarith
        · have : ((j + 1 : Nat) : ℝ) ≤ 4096 := by exact_mod_cast (by omega : j + 1 ≤ 4096)
          have := mul_le_mul_of_nonneg_right this hp.le
          have e : (4096 : ℝ) * x = Real.pi / 2 := by rw [hx]; ring
          linarith
      have hE : ((e : ℝ) * (rotCos + rotSin) + 2 * rotScale * 40000) / rotScale + 1
          ≤ ((e * (rotCos + rotSin) / rotScale + 80002 : Nat) : ℝ) := by
        have := (Nat.lt_floor_add_one (((e * (rotCos + rotSin) : Nat) : ℝ) / ((rotScale : Nat) : ℝ)))
        rw [Nat.floor_div_eq_div] at this
        rw [add_div, mul_assoc, mul_comm (rotScale : ℝ), ← mul_assoc, mul_div_cancel_right₀ _ hN.ne']
        push_cast at this ⊢
        linarith
      have sc := rot_step hN hc hs (Real.abs_cos_le_one _) (Real.abs_sin_le_one _) (rotCos_close hx) (rotSin_close hx)
        (Nat.cast_nonneg _) (Nat.cast_nonneg _)
      have ss := rot_step (u := s) (v := -c) (c := Real.sin (j * x)) (s := -Real.cos (j * x)) hN hs
        (by rw [show -(c : ℝ) - rotScale * -Real.cos (j * x) = -(c - rotScale * Real.cos (j * x)) by ring, abs_neg]; exact hc)
        (Real.abs_sin_le_one _) (by rw [abs_neg]; exact Real.abs_cos_le_one _) (rotCos_close hx) (rotSin_close hx)
        (Nat.cast_nonneg _) (Nat.cast_nonneg _)
      refine ih (j + 1) _ _ _ hw (by omega) ?_ ?_ i (by omega) (by omega)
      · refine floor_close (B := (e : ℝ) * (rotCos + rotSin) + 2 * rotScale * 40000) (by norm_num [rotScale]) ?_ hE
        rw [ej, Real.cos_add] at *
        refine le_trans ?_ sc
        rcases le_total (s * rotSin) (c * rotCos) with hle | hle
        · rw [Nat.cast_sub hle]; push_cast; rfl
        · rw [Nat.sub_eq_zero_of_le hle]
          have hle' : (c * rotCos : ℝ) ≤ s * rotSin := by exact_mod_cast hle
          have : 0 ≤ (rotScale : ℝ) * (rotScale * (Real.cos (j * x) * Real.cos x - Real.sin (j * x) * Real.sin x)) := by positivity
          rw [abs_of_nonpos (by push_cast; linarith), abs_of_nonpos (by linarith)]
          push_cast; linarith
      · refine floor_close (B := (e : ℝ) * (rotCos + rotSin) + 2 * rotScale * 40000) (by norm_num [rotScale]) ?_ hE
        rw [ej, Real.sin_add]
        convert ss using 2
        push_cast; ring

/-- The ROM is less than 1/2 from the exact sine: S3 of R63 with ERR_SIN = 1/2 (R83). -/
theorem romQ_close (j : Nat) (h : j ≤ 4096) :
    |(romQ j : ℝ) - 32767 * Real.sin (2 * Real.pi * j / 16384)| < 1 / 2 := by
  rcases Nat.eq_or_lt_of_le h with rfl | h
  · rw [show 2 * Real.pi * ((4096 : Nat) : ℝ) / 16384 = Real.pi / 2 by push_cast; ring, Real.sin_pi_div_two,
      show romQ 4096 = 32767 from rfl]
    norm_num
  · rw [show 2 * Real.pi * (j : ℝ) / 16384 = j * (2 * Real.pi / 16384) by ring]
    exact romWalk_sound rfl 4096 0 rotScale 0 0 romWalk_all (by omega) (by simp) (by simp) j (by omega) (by omega)

/-- The ROM stays within 15 bits (S1 of R63). -/
theorem romQ_le (j : Nat) (h : j ≤ 4096) : romQ j ≤ 32767 := by
  have h1 := (abs_lt.mp (romQ_close j h)).2
  have h2 := Real.sin_le_one (2 * Real.pi * j / 16384)
  have h3 : (romQ j : ℝ) < (32767 + 1 : Nat) := by
    push_cast
    linarith
  exact Nat.lt_succ_iff.mp (by exact_mod_cast h3)

end Sys2Proof.Machine
end

