-- ==== Sys2Proof/Machine/Sine.lean ====
section
/-! DEFINITION. SIN14 (R63): the quarter wave of the implementation and its folding to the full wave. -/

namespace Sys2Proof.Machine

/-- R63 admits an implementation: the ROM, with an ERR_SIN of 2 stated for it. It only shows that there is one; the
CORDIC of a configuration is not this one. -/
def romAsCordic : CordicSine where
  quarter := romQ
  errSin := 2
  errSin_le := le_refl 2
  le_top := romQ_le
  at_zero := rfl
  at_quarter := rfl
  close := fun j h => (romQ_close j h).le.trans (by norm_num)

/-- The CORDIC of SINE_IMPL = CORDIC: a free value among the implementations R63 admits (log entry 6). -/
def cordic : CordicSine :=
  @Config.cordicSine ⟨romAsCordic⟩

/-- ERR_SIN of the implementation: 1/2 for the LUT, and what a CORDIC states, at most 2 (S3 of R63). -/
def sineErr : SineImpl → ℚ
  | .lut => 1 / 2
  | .cordic => cordic.errSin

/-- The quarter wave of the implementation. -/
def quarterWave : SineImpl → Nat → Nat
  | .lut => romQ
  | .cordic => cordic.quarter

/-- The folding of R83: the quadrant is k[13:12] and r is k[11:0]. The same symmetry (S4 of R63) holds of every
implementation. -/
def foldQuarter (q : Nat → Nat) (k : BitVec 14) : Int :=
  let r := (k.extractLsb' 0 12).toNat
  if k.extractLsb' 12 2 = 0 then (q r : Int)
  else if k.extractLsb' 12 2 = 1 then (q (4096 - r) : Int)
  else if k.extractLsb' 12 2 = 2 then -(q r : Int)
  else -(q (4096 - r) : Int)

/-- SIN14(k), in [-32767, 32767] (R63, R83). -/
def sin14 (impl : SineImpl) (k : BitVec 14) : Int :=
  foldQuarter (quarterWave impl) k

end Sys2Proof.Machine
end

