-- ==== Sys2Proof/Machine/Samplers.lean ====
section
/-! DEFINITION. The datapath functions: the quantizer (R59), the phase (R61) and the periodic samplers (R64, R65).
Arithmetic is over the integers with floor division (R7). -/

namespace Sys2Proof.Machine

/-- Quantize(v) of R59 as a number: `fs` is P_FULL_SCALE_UV and `v` a voltage in µV. -/
def quantizeNat (fs : Nat) (v : Int) : Nat :=
  if v < 0 then 0
  else if (fs : Int) < v then 4095
  else min (v.toNat * 4096 / fs) 4095

/-- Quantize(v) as the 12-bit code (R59). -/
def quantize (fs : Nat) (v : Int) : Code :=
  BitVec.ofNat 12 (quantizeNat fs v)

/-- P = E × FTW of R61, exact. -/
def phaseProduct (e : Ticks) (ftw : Word) : Nat :=
  e.toNat * ftw.toNat

/-- theta of R61: the fraction of the current period, in units of 2^-32 period. -/
def phaseTheta (e : Ticks) (ftw : Word) : Word :=
  BitVec.ofNat 32 (phaseProduct e ftw % 2 ^ 32)

/-- n of R61: the periods elapsed. -/
def phasePeriods (e : Ticks) (ftw : Word) : Nat :=
  phaseProduct e ftw / 2 ^ 32

/-- The 14-bit phase index of the sine sampler: theta[31:18] (R64). -/
def sineIndex (theta : Word) : BitVec 14 :=
  theta.extractLsb' 18 14

/-- SineV(theta) of R64 with SIN14's value `s`. -/
def sineBlend (s lo hi : Int) : Int :=
  lo + (s + 32767) * (hi - lo) / 65534

/-- SineV(theta) of R64. -/
def sineV (impl : SineImpl) (lo hi theta : Word) : Int :=
  sineBlend (sin14 impl (sineIndex theta)) lo.toInt hi.toInt

/-- SawV(theta) of R65. -/
def sawV (lo hi theta : Word) : Int :=
  lo.toInt + (theta.toNat : Int) * (hi.toInt - lo.toInt) / 2 ^ 32

end Sys2Proof.Machine
end

