-- ==== Sys2Proof/Machine/Ops.lean ====
section
/-! DEFINITION. The named operations the meanings are made of: the step table, the register port, the recording of
errors (reject, Stop), the issue of a sample, the launch of a run and the transport handshake. Every operation reads
the state as it is at the start of the cycle (R8, R9). -/

namespace Sys2Proof.Machine

/-! ### The step table (R28) -/

/-- The strictly rising order that makes equal tables equal lists. -/
def Memory.wf : Memory → Bool
  | [] => true
  | [_] => true
  | (i, _) :: (j, w) :: m => decide (i < j) && Memory.wf ((j, w) :: m)

/-- The word last written to entry `i`, if any. -/
def Memory.read : Memory → Nat → Option Word
  | [], _ => none
  | (j, w) :: m, i => if j = i then some w else Memory.read m i

/-- The table after a write of `w` to entry `i`. -/
def Memory.write : Memory → Nat → Word → Memory
  | [], i, w => [(i, w)]
  | (j, x) :: m, i, w =>
    if i < j then (i, w) :: (j, x) :: m
    else if i = j then (i, w) :: m
    else (j, x) :: Memory.write m i w

/-- STEP[i]: the word last written, or a free value where nothing has been written since power-on (R28, 93 U2; log
entry 4). -/
def State.stepEntry (s : State) (i : Nat) : Word :=
  match s.table.read i with
  | some w => w
  | none => Config.unwrittenEntry i s.draws

/-- The state after entry `i` has been read: a free value, once drawn, is not drawn again (log entry 4). -/
def State.afterStepRead (s : State) (i : Nat) : State :=
  match s.table.read i with
  | some _ => s
  | none => { s with draws := s.draws + 1 }

/-- StepV(i) = StepRead(i) = int_32(STEP[i]) (R66). -/
def State.stepV (s : State) (i : Nat) : Int :=
  (s.stepEntry i).toInt

/-! ### The register port (R52, R53) -/

/-- RegRead of R52. -/
def State.regRead (s : State) : Reg → Word
  | .ctrl => s.ctrl.setWidth 32
  | .cmd => 0
  | .lo => s.lo
  | .hi => s.hi
  | .ftw => s.ftw
  | .repeatN => s.repeatN
  | .stepLen => s.stepLen.setWidth 32
  | .status => s.status
  | .cycles => s.cycles
  | .lastCode => s.lastCode.setWidth 32
  | .stepIdx => s.idx.setWidth 32
  | .step i => s.stepEntry i
  | .reserved => 0

/-- The state after a register has been read: only an unwritten step entry leaves a trace, in the model's own `draws`. -/
def State.afterRegRead (s : State) : Reg → State
  | .step i => s.afterStepRead i
  | .ctrl | .cmd | .lo | .hi | .ftw | .repeatN | .stepLen | .status | .cycles | .lastCode | .stepIdx | .reserved => s

/-- `RD` (R52): hp_rdata is RegRead of the slot; a read changes no state of the block. -/
def State.hostRead (s : State) (waddr : BitVec 10) : State :=
  let r := regOf s.par.stepDepth waddr
  { s.afterRegRead r with out := { s.out with rdata := some (s.regRead r) } }

/-- The register part of `WR` (R53): RO registers and reserved slots ignore the write, reserved bits are not stored. -/
def State.regWrite (s : State) (w : Word) : Reg → State
  | .ctrl => { s with ctrl := w.extractLsb' 0 4 }
  | .lo => { s with lo := w }
  | .hi => { s with hi := w }
  | .ftw => { s with ftw := w }
  | .repeatN => { s with repeatN := w }
  | .stepLen => { s with stepLen := w.extractLsb' 0 9 }
  | .step i => { s with table := s.table.write i w }
  | .cmd | .status | .cycles | .lastCode | .stepIdx | .reserved => s

/-! ### Recording errors: what WAVEGEN has in place of exceptions (R57, R78, R87) -/

/-- `reject(err)`, for a START whose checks failed (R57). -/
def State.reject (s : State) (e : ErrKind) : State :=
  { s with err := e, done := false, errCount := 0 }

/-- `Stop(err, count)`, the end of a run (R78). -/
def State.stop (s : State) (e : ErrKind) (count : BitVec 2) : State :=
  { s with fsm := .stopped, done := e == .none, err := e, errCount := count }

/-! ### Starting a run (R56) -/

/-- The checks of a START after the acquisition check, in the order of R56 and R89, for the mode `m`. -/
def State.modeError (s : State) (m : BitVec 2) : ErrKind :=
  if m = 3 then .mode
  else if s.ftw = 0 then .frequency
  else if m = 0 ∧ (s.stepLen.toNat = 0 ∨ s.par.stepDepth < s.stepLen.toNat) then .parameter
  else .none

/-- The checks of a START, in the order ACQUISITION, MODE, FREQUENCY, PARAMETER (R56, R89). -/
def State.startError (s : State) : ErrKind :=
  if s.pins.tpAvail then s.modeError s.mode else .acquisition

/-- An accepted START in the mode `m` (R56). -/
def State.accept (s : State) (m : BitVec 2) : State :=
  { s with
    t0 := s.now + 1, cyc := 0, idx := 0, done := false, err := .none, errCount := 0,
    fsm := if m = 0 then .sEntry else .pSample }

/-- The outcome of a START's checks in the mode `m`: a rejection, or a run begun (R56, R57). -/
def State.launch (s : State) (m : BitVec 2) (e : ErrKind) : State :=
  if e = .none then s.accept m else s.reject e

/-- The command START (R56): ignored while a run is in progress (R58). -/
def State.startCommand (s : State) : State :=
  if s.running then s else s.launch s.mode s.startError

/-- A `WR` to CMD: START for w[7:0] = 0x01, NOP for every other opcode (R53, R55, R56). -/
def State.command (s : State) (w : Word) : State :=
  if w.extractLsb' 0 8 = startOpcode then s.startCommand else s

/-- `WR` (R53): CMD is always decoded, and any other write is ignored while a run is in progress (R54). -/
def State.hostWrite (s : State) (waddr : BitVec 10) (w : Word) : State :=
  if byteOffset waddr = 0x004 then s.command w
  else if s.running then s
  else s.regWrite w (regOf s.par.stepDepth waddr)

/-! ### Issuing a sample (R70, R71, R76) -/

/-- `Diag(v)` (R79): the voltage is on the diagnostic port when CTRL.VERBOSE = 1, else the port is 0. -/
def State.diag (s : State) (v : Int) : State :=
  { s with out := { s.out with dbgValid := s.verbose, dbgVolt := if s.verbose then BitVec.ofInt 32 v else 0 } }

/-- The end every issue shares: CODE <- Quantize(v), Diag(v), FSM <- SEL_REQ. -/
def State.issue (s : State) (v : Int) : State :=
  { s.diag v with code := quantize s.par.fullScaleUv v, fsm := .selReq }

/-- The repeat policy: REPEAT > 0 and n ≥ REPEAT (R70, R76). -/
def State.repeatReached (s : State) (n : Nat) : Bool :=
  decide (0 < s.repeatN.toNat) && decide (s.repeatN.toNat ≤ n)

/-- The voltage of a periodic sample in the mode `m`: `(CTRL.MODE == 1) ? SineV(theta) : SawV(theta)` (R70). -/
def State.periodicV (s : State) (m : BitVec 2) : Int :=
  if m = 1 then sineV s.par.sineImpl s.lo s.hi (phaseTheta s.elapsed s.ftw)
  else sawV s.lo s.hi (phaseTheta s.elapsed s.ftw)

/-- CYC <- n of P_SAMPLE (R70). -/
def State.countPeriods (s : State) : State :=
  { s with cyc := BitVec.ofNat 64 (phasePeriods s.elapsed s.ftw) }

/-- P_SAMPLE in the mode `m` (R70): time sample, termination test, code computation. -/
def State.sample (s : State) (m : BitVec 2) : State :=
  if s.repeatReached (phasePeriods s.elapsed s.ftw) then s.countPeriods.stop .none 0
  else s.countPeriods.issue (s.periodicV m)

/-- The issue of step entry `i`: IDX <- i, ES <- NOW, and the sample StepV(i) (R71, R76). -/
def State.issueEntry (s : State) (i : Nat) : State :=
  ({ s.afterStepRead i with idx := BitVec.ofNat 8 i, es := s.now }).issue (s.stepV i)

/-- S_ENTRY (R71): the first entry of a step run is the entry IDX. -/
def State.firstEntry (s : State) : State :=
  s.issueEntry s.idx.toNat

/-- The hold is over: H × FTW ≥ 2^32 (R76). -/
def State.holdOver (s : State) : Bool :=
  decide (2 ^ 32 ≤ s.held.toNat * s.ftw.toNat)

/-- The current entry is the last one: IDX = STEP_LEN.LEN − 1 (R76). -/
def State.lastEntry (s : State) : Bool :=
  decide (s.idx.toNat + 1 = s.stepLen.toNat)

/-- CYC <- CYC + 1 at the end of a full pass (R76). -/
def State.countPass (s : State) : State :=
  { s with cyc := s.cyc + 1 }

/-- S_HOLD (R76): hold the current entry, then issue the next one, wrap, or stop. -/
def State.hold (s : State) : State :=
  if s.holdOver then
    if s.lastEntry then
      if s.repeatReached (s.cyc.toNat + 1) then s.countPass.stop .none 0
      else s.countPass.issueEntry 0
    else s.issueEntry (s.idx.toNat + 1)
  else s

/-- What the mode `m` does in a cycle: from STOPPED, the outcome of a START in that mode once the device is acquired
(R56); in P_SAMPLE, S_ENTRY and S_HOLD, the loop-controller step (R70, R71, R76); in the request and wait states it
has no part (R72 to R75). -/
def State.modeCycle (s : State) (m : BitVec 2) : State :=
  match s.fsm with
  | .stopped => s.launch m (s.modeError m)
  | .pSample => s.sample m
  | .sEntry => s.firstEntry
  | .sHold => s.hold
  | .selReq | .selWait | .wrReq | .wrWait => s

/-! ### The transport handshake (R68, R72 to R75) -/

/-- The request pins carry a TPREQ (R68). -/
def State.drive (s : State) (op : Bool) (addr : BusAddr) (data : BitVec 16) : State :=
  { s with out := { s.out with req := { valid := true, op := op, addr := addr, data := data } } }

/-- A request transfers: the transport owes one response, and the controller waits in `f` (R68, R72, R74). -/
def State.transfer (s : State) (word : BitVec 24) (f : Fsm) : State :=
  { s with fsm := f, outstanding := s.outstanding + 1, requests := s.requests ++ [word] }

/-- SEL_REQ and WR_REQ: present a request, and move on to `f` if the transport takes it in this cycle (R72, R74). -/
def State.present (s : State) (op : Bool) (addr : BusAddr) (data : BitVec 16) (f : Fsm) : State :=
  if s.pins.tpReqReady then (s.drive op addr data).transfer (tpReqWord op addr data) f
  else s.drive op addr data

/-- SEL_WAIT (R73): tp_rsp_count is ignored. -/
def State.selectWait (s : State) : State :=
  if s.pins.tpRspValid then
    if s.pins.tpRsp.ok then { s with fsm := .wrReq } else s.stop .transportSelect 0
  else s

/-- A WRITE has succeeded (R75): LAST_CODE <- CODE, and the loop goes on, or the single-entry run stops (R77). -/
def State.writeDone (s : State) : State :=
  if s.mode ≠ 0 then { s with lastCode := s.code, fsm := .pSample }
  else if s.stepLen.toNat = 1 then ({ s with lastCode := s.code }).stop .none 0
  else { s with lastCode := s.code, fsm := .sHold }

/-- WR_WAIT (R75). -/
def State.writeWait (s : State) : State :=
  if s.pins.tpRspValid then
    if s.pins.tpRsp.writeOk then s.writeDone else s.stop .transportWrite s.pins.tpRsp.count
  else s

/-- A frame's two bytes are handed to the transport, byte 0 first (R34, R48). -/
def State.handFrame (s : State) (code : Code) : State :=
  { s with wire := s.wire ++ [frameByte0 code, frameByte1 code] }

end Sys2Proof.Machine
end

