-- ==== Sys2Proof/Machine/HostPort.lean ====
section
/-! DEFINITION. The meanings of the host transactions and commands (R52 to R58). -/

namespace Sys2Proof.Machine

/-- `START` (R56, R57, R58). The bits [31:8] of the command word have no effect (R43). -/
def execStart (_upper : BitVec 24) (s : State) : Host.Outcome State Fault Refusal :=
  .next s.startCommand

/-- `NOP` (R55): no state changes, whatever the reserved opcode. -/
def execNop (_upper : BitVec 24) (_opc : Byte) (s : State) : Host.Outcome State Fault Refusal :=
  .next s

/-- `WR` (R53, R54). -/
def execWr (waddr : BitVec 10) (data : Word) (s : State) : Host.Outcome State Fault Refusal :=
  .next (s.hostWrite waddr data)

/-- `RD` (R52). The DATA field is ignored (R42). -/
def execRd (waddr : BitVec 10) (_data : Word) (s : State) : Host.Outcome State Fault Refusal :=
  .next (s.hostRead waddr)

end Sys2Proof.Machine
end

