-- ==== Sys2Proof/Machine/Modes.lean ====
section
/-! DEFINITION. The meanings of the four values of CTRL.MODE (R44): what the block does in a cycle in which the mode
decides (`State.modeCycle`). -/

namespace Sys2Proof.Machine

/-- MODE = 0, the step sequence (R66, R71, R76). -/
def execModeStep (s : State) : Host.Outcome State Fault Refusal :=
  .next (s.modeCycle 0)

/-- MODE = 1, the sine sampler (R64, R70). -/
def execModeSine (s : State) : Host.Outcome State Fault Refusal :=
  .next (s.modeCycle 1)

/-- MODE = 2, the sawtooth sampler (R65, R70). -/
def execModeSawtooth (s : State) : Host.Outcome State Fault Refusal :=
  .next (s.modeCycle 2)

/-- MODE = 3, reserved: a START with it is rejected with ERR = MODE (R44, R56), so no run is ever in this mode. -/
def execModeReserved (s : State) : Host.Outcome State Fault Refusal :=
  .next (s.modeCycle 3)

end Sys2Proof.Machine
end

