-- ==== Sys2Proof/Machine/Transport.lean ====
section
/-! DEFINITION. The meanings of the transport requests (R72 to R75) and of the DAC frame (R48). A request's meaning
covers its REQ state and its WAIT state; in any other state the block presents no such request (R68). -/

namespace Sys2Proof.Machine

/-- `TP_SELECT` at `addr`: SEL_REQ (R72) and SEL_WAIT (R73). -/
def execTpSelect (addr : BusAddr) (s : State) : Host.Outcome State Fault Refusal :=
  match s.fsm with
  | .selReq => .next (s.present false addr 0 .selWait)
  | .selWait => .next s.selectWait
  | .stopped | .pSample | .sEntry | .wrReq | .wrWait | .sHold => .next s

/-- `TP_WRITE` of `code` at `addr`: WR_REQ (R74) and WR_WAIT (R75). -/
def execTpWrite (addr : BusAddr) (code : Code) (s : State) : Host.Outcome State Fault Refusal :=
  match s.fsm with
  | .wrReq => .next (s.present true addr (frame16 code) .wrWait)
  | .wrWait => .next s.writeWait
  | .stopped | .pSample | .sEntry | .selReq | .selWait | .sHold => .next s

/-- `DAC_FRAME` (R48): the two bytes of the DAC register write go to the transport, high byte first (R34). -/
def execDacFrame (code : Code) (s : State) : Host.Outcome State Fault Refusal :=
  .next (s.handFrame code)

end Sys2Proof.Machine
end

