-- ==== Sys2Proof/Machine/Dispatch.lean ====
section
/-! DEFINITION. One arm for each operation of the table. -/

namespace Sys2Proof.Machine

def exec (i : Instr) (s : State) : Host.Outcome State Fault Refusal :=
  match i with
  | .start upper => Sys2Proof.Machine.execStart upper s
  | .nop upper opc => Sys2Proof.Machine.execNop upper opc s
  | .wr waddr data => Sys2Proof.Machine.execWr waddr data s
  | .rd waddr data => Sys2Proof.Machine.execRd waddr data s
  | .modeStep => Sys2Proof.Machine.execModeStep s
  | .modeSine => Sys2Proof.Machine.execModeSine s
  | .modeSawtooth => Sys2Proof.Machine.execModeSawtooth s
  | .modeReserved => Sys2Proof.Machine.execModeReserved s
  | .tpSelect addr => Sys2Proof.Machine.execTpSelect addr s
  | .tpWrite addr code => Sys2Proof.Machine.execTpWrite addr code s
  | .dacFrame code => Sys2Proof.Machine.execDacFrame code s

end Sys2Proof.Machine
end

