-- ==== Sys2Proof/Machine/Cycle.lean ====
section
/-! DEFINITION. What a clock cycle is made of (R9): the operations that run in it, the reset edge (R97, R98), the NOW
increment (R25), and where the words of the operations stand. Machine/Step.lean puts them together. -/

namespace Sys2Proof.Machine

/-- The 43 bits on the host port (R42). -/
def Pins.hostWord (p : Pins) : BitVec 43 :=
  hostOpWord p.hpWe p.hpAddr p.hpWdata

/-- The host operation of the cycle: the decoded HOSTOP, if an access is presented (R33, R42). -/
def State.hostOps (s : State) : List Instr :=
  if s.pins.hpValid then [decodeHostOp s.pins.hostWord] else []

/-- The loop controller's operation in the cycle (R69 to R76): the row of CTRL.MODE in P_SAMPLE, S_ENTRY and S_HOLD,
the request of a REQ or WAIT state, and the DAC frame in the cycle in which a WRITE transfers. -/
def State.loopOps (s : State) : List Instr :=
  match s.fsm with
  | .stopped => []
  | .pSample => [decodeMode s.mode]
  | .sEntry => [decodeMode s.mode]
  | .sHold => [decodeMode s.mode]
  | .selReq => [.tpSelect s.busAddr]
  | .selWait => [.tpSelect s.busAddr]
  | .wrReq => if s.pins.tpReqReady then [.tpWrite s.busAddr s.code, .dacFrame s.code] else [.tpWrite s.busAddr s.code]
  | .wrWait => [.tpWrite s.busAddr s.code]

/-- The operations of the cycle, decided by the state at its start. The host access has an effect only in STOPPED,
where the loop controller does nothing, but for the read data, which are those of the start of the cycle (R9, R33). -/
def State.cycleOps (s : State) : List Instr :=
  s.hostOps ++ s.loopOps

/-- A response presented in this cycle answers a request of an earlier cycle (R68 T1). -/
def State.answered (s : State) : Nat :=
  if s.pins.tpRspValid then s.outstanding - 1 else s.outstanding

/-- The start of a cycle: no output is driven yet. -/
def State.beginCycle (s : State) : State :=
  { s with out := Outputs.quiet, outstanding := s.answered }

/-- The end of a cycle without reset: NOW <- (NOW + 1) mod 2^64 (R25), and the next pins stand on the ports. -/
def State.endCycle (s : State) : State :=
  { s with now := s.now + 1, inputs := s.inputs.tail }

/-- The edge of a reset cycle (R97): every element takes its value of R98, the step table keeps its words, and the
outputs are 0, so that no request transfers. -/
def State.resetEdge (s : State) : State :=
  { s with
    ctrl := 0, lo := 0, hi := 0, ftw := 0, repeatN := 0, stepLen := 0,
    done := false, err := .none, errCount := 0, cyc := 0, lastCode := 0, idx := 0, fsm := .stopped,
    now := 0, t0 := 0, es := 0, code := 0,
    inputs := s.inputs.tail, out := Outputs.inReset, outstanding := s.answered }

/-- Run operations one after the other. -/
def runOps : List Instr → State → Host.Outcome State Fault Refusal
  | [], s => .next s
  | i :: is, s =>
    match exec i s with
    | .next t => runOps is t
    | .fault r => .fault r
    | .refused r => .refused r

/-! ### Where an operation's word stands (log entry 10) -/

/-- The same state with other pins in this cycle. -/
def State.withPins (s : State) (p : Pins) : State :=
  { s with inputs := p :: s.inputs.tail }

/-- The pins with neither a reset nor a host access. -/
def Pins.withoutHost (p : Pins) : Pins :=
  { p with rst := false, hpValid := false }

/-- The pins with a HOSTOP presented (R42). -/
def Pins.withHostOp (p : Pins) (w : BitVec 43) : Pins :=
  { p with rst := false, hpValid := true, hpWe := w.getLsbD 42, hpAddr := w.extractLsb' 32 10,
           hpWdata := w.extractLsb' 0 32 }

/-- The same state with CTRL.MODE set. -/
def State.withMode (s : State) (m : BitVec 2) : State :=
  { s with ctrl := s.ctrl.extractLsb' 2 2 ++ m }

/-- The same state with the selected bus address set. -/
def State.withBusAddr (s : State) (a : BusAddr) : State :=
  if s.addrSel then { s with par := { s.par with addrHi := a } } else { s with par := { s.par with addrLo := a } }

/-- The state in which the next step runs the operation `i`: a HOSTOP stands on the host port; a mode stands in CTRL
with the controller in the mode's issue state (the reserved mode, which no run can have, with a START presented); a
request or frame is the controller's in its REQ state. -/
def State.place (s : State) : Instr → State
  | .start upper => s.withPins (s.pins.withHostOp (hostOpWord true cmdSlot (commandWord upper startOpcode)))
  | .nop upper opc => s.withPins (s.pins.withHostOp (hostOpWord true cmdSlot (commandWord upper opc)))
  | .wr waddr data => s.withPins (s.pins.withHostOp (hostOpWord true waddr data))
  | .rd waddr data => s.withPins (s.pins.withHostOp (hostOpWord false waddr data))
  | .modeStep => { (s.withMode 0).withPins s.pins.withoutHost with fsm := .sEntry }
  | .modeSine => { (s.withMode 1).withPins s.pins.withoutHost with fsm := .pSample }
  | .modeSawtooth => { (s.withMode 2).withPins s.pins.withoutHost with fsm := .pSample }
  | .modeReserved =>
    let p := s.pins.withHostOp (hostOpWord true cmdSlot (commandWord 0 startOpcode))
    { (s.withMode 3).withPins { p with tpAvail := true } with fsm := .stopped }
  | .tpSelect addr => { (s.withBusAddr addr).withPins s.pins.withoutHost with fsm := .selReq }
  | .tpWrite addr code => { (s.withBusAddr addr).withPins s.pins.withoutHost with fsm := .wrReq, code := code }
  | .dacFrame code =>
    { s.withPins { s.pins.withoutHost with tpReqReady := true } with fsm := .wrReq, code := code }

end Sys2Proof.Machine
end

