-- ==== Sys2Proof/Machine/Step.lean ====
section
/-! DEFINITION. One step of the machine: one clock cycle (R9). -/

namespace Sys2Proof.Machine

/-- One clock cycle (R9): a reset, or the cycle's operations and the NOW increment. -/
def step (s : State) : Host.Outcome State Fault Refusal :=
  if s.pins.rst then .next s.resetEdge
  else
    match runOps s.cycleOps s.beginCycle with
    | .next t => .next t.endCycle
    | .fault r => .fault r
    | .refused r => .refused r

/-- The state whose next step runs the operation of a table word of `nbits` bits; the word that decodes to none leaves
the state as it is. -/
def State.withFetchWord (s : State) (nbits w : Nat) : State :=
  match decodeTableWord nbits w with
  | some i => s.place i
  | none => s

end Sys2Proof.Machine
end

