-- ==== Sys2Proof/Safety.lean ====
section
/-! DEFINITION. What claims about runs are stated in: the invariant of the block, the order of the requests on the bus
(R40), the obligations of the transport and the platform (R68, R99, R101), and the pins of the standard test harness. -/

namespace Sys2Proof.Safety

open Sys2Proof.Machine

/-- The invariant of the block: what holds after reset and is kept by every cycle, whatever the pins do. -/
structure Inv (s : State) : Prop where
  /-- The parameters are legal (R5). -/
  parLegal : s.par.legal = true
  /-- The step table is in its canonical form. -/
  tableSorted : Memory.wf s.table = true
  /-- Only entries of the table are listed (R28). -/
  tableInDepth : ∀ i w, (i, w) ∈ s.table → i < s.par.stepDepth
  /-- P_SAMPLE is a state of the periodic modes (R13, R70). -/
  sampleMode : s.fsm = .pSample → s.mode = 1 ∨ s.mode = 2
  /-- S_ENTRY and S_HOLD are states of step mode (R13, R71, R76). -/
  stepMode : s.fsm = .sEntry ∨ s.fsm = .sHold → s.mode = 0
  /-- No run is in the reserved mode (R44, R56). -/
  runMode : s.running = true → s.mode ≠ 3
  /-- FTW is never 0 in a run (R18, R61). -/
  runFtw : s.running = true → s.ftw ≠ 0
  /-- A step run has a legal length, and IDX stays in [0, LEN − 1] (R12, R20). -/
  runLen : s.running = true → s.mode = 0 →
    1 ≤ s.stepLen.toNat ∧ s.stepLen.toNat ≤ s.par.stepDepth ∧ s.idx.toNat < s.stepLen.toNat
  /-- In periodic modes IDX stays 0 (R24). -/
  periodicIdx : s.running = true → s.mode ≠ 0 → s.idx = 0
  /-- S_ENTRY issues the first entry, before any pass is counted (R71). -/
  entryFirst : s.fsm = .sEntry → s.idx = 0 ∧ s.cyc = 0
  /-- A single-entry run holds nothing and counts no pass (R77). -/
  singleEntry : s.running = true → s.mode = 0 → s.stepLen.toNat = 1 → s.fsm ≠ .sHold ∧ s.cyc = 0
  /-- During a run STATUS reads 0x0000_0001 (R56, R78). -/
  runStatus : s.running = true → s.done = false ∧ s.err = .none ∧ s.errCount = 0
  /-- DONE and an error are never both set (R21). -/
  doneNoError : s.done = true → s.err = .none
  /-- ERR_COUNT is 0 unless a WRITE failed (R21, R78). -/
  countOfWrite : s.err ≠ .transportWrite → s.errCount = 0

/-- One request in the order of the bus: the state is the address selected by a SELECT not yet followed by a WRITE, and
a WRITE not preceded by a SELECT of its address has no next state. -/
def scanRequest : Option (Option BusAddr) → BitVec 24 → Option (Option BusAddr)
  | none, _ => none
  | some last, w =>
    if w.getLsbD 23 then
      if last = some (w.extractLsb' 16 7) then some none else none
    else some (some (w.extractLsb' 16 7))

/-- The requests of a bus in order: `none` when some WRITE is not directly preceded by its own SELECT (R40). -/
def busScan (ws : List (BitVec 24)) : Option (Option BusAddr) :=
  ws.foldl scanRequest (some none)

/-- Every WRITE so far was directly preceded by a SELECT of its address, and while a SELECT has been answered or awaits
its answer, the last request is the SELECT of the run's address (R40, R72 to R74). -/
structure BusOrdered (s : State) : Prop where
  /-- The requests so far are in order. -/
  scanned : busScan s.requests ≠ none
  /-- The SELECT of the WRITE to come is the last request. -/
  selected : s.fsm = .selWait ∨ s.fsm = .wrReq → busScan s.requests = some (some s.busAddr)

/-- In this cycle the transport keeps T2: a response is presented only for a transferred request (R68). -/
def KeepsT2 (s : State) : Prop :=
  s.pins.tpRspValid = true → 0 < s.outstanding

/-- In this cycle the platform keeps the duty of R99: no reset while a request is unanswered. (The spec asks that the
transport finish before the first START after the reset; this is the stricter form of it.) -/
def ResetHandsOver (s : State) : Prop :=
  s.pins.rst = true → s.answered = 0

/-- At most one request is unanswered, and one is exactly in the WAIT states (R40, R68). -/
structure OneRequest (s : State) : Prop where
  /-- In a WAIT state one response is owed. -/
  waiting : s.fsm = .selWait ∨ s.fsm = .wrWait → s.outstanding = 1
  /-- In every other state none is owed. -/
  settled : s.fsm ≠ .selWait → s.fsm ≠ .wrWait → s.outstanding = 0

/-- The state elements that a run reads as its configuration, with the parameters (R54). -/
def SameConfig (s t : State) : Prop :=
  t.par = s.par ∧ t.ctrl = s.ctrl ∧ t.lo = s.lo ∧ t.hi = s.hi ∧ t.ftw = s.ftw ∧ t.repeatN = s.repeatN
    ∧ t.stepLen = s.stepLen ∧ t.table = s.table

/-- The time `t` in seconds that `e` ticks take: t = E / P_F_TICK_HZ (R61). -/
def IsSeconds (e : Ticks) (t : ℝ) : Prop :=
  t * Config.tickHz = e.toNat

/-- The frequency `f` in Hz that FTW stands for: f = FTW × P_F_TICK_HZ / 2^32 (R62). -/
def IsFrequency (ftw : Word) (f : ℝ) : Prop :=
  f * 2 ^ 32 = ftw.toNat * Config.tickHz

/-- The pins of a cycle without reset, with no host access. -/
def QuietHost (p : Pins) : Prop :=
  p.rst = false ∧ p.hpValid = false

/-- The pins of a cycle of a run under the standard test harness (95_test_vectors.md) in a REQ state: the request is
taken. -/
def TakesRequest (p : Pins) : Prop :=
  QuietHost p ∧ p.tpReqReady = true

/-- The pins of a cycle under the standard test harness in a WAIT state: the response OK = 1, COUNT = 2. -/
def AnswersOk (p : Pins) : Prop :=
  QuietHost p ∧ p.tpRspValid = true ∧ p.tpRsp = { ok := true, count := 2 }

/-- What R80 assumes of the outside world in a cycle of a run with every write succeeding: no reset; a response that is
taken in a WAIT state is a good one; and the transport, however slow (T3 of R68), does not leave the controller in
a REQ or WAIT state for ever. Nothing is asked of the host, nor of the response pins outside the WAIT states. -/
structure ServedCycle (t : State) : Prop where
  /-- There is no reset. -/
  live : t.pins.rst = false
  /-- The SELECT succeeds: OK = 1 (R73). -/
  selects : t.fsm = .selWait → t.pins.tpRspValid = true → t.pins.tpRsp.ok = true
  /-- The WRITE succeeds: OK = 1 and COUNT at least 2 (R47, R75). -/
  writes : t.fsm = .wrWait → t.pins.tpRspValid = true → t.pins.tpRsp.ok = true ∧ 2 ≤ t.pins.tpRsp.count.toNat
  /-- The request is taken, or the answer comes, some time. -/
  serves : t.fsm = .selReq ∨ t.fsm = .selWait ∨ t.fsm = .wrReq ∨ t.fsm = .wrWait →
    ∃ m u, Host.Core.run core m t = .next u ∧ u.fsm ≠ t.fsm

/-- Every cycle of the run in progress in `s`, up to its end, is a served one. -/
def ServesTheRun (s : State) : Prop :=
  ∀ n t, Host.Core.run core n s = .next t →
    (∀ k u, k ≤ n → Host.Core.run core k s = .next u → u.fsm ≠ .stopped) → ServedCycle t

end Sys2Proof.Safety
end

