-- ==== Sys2Proof/Certificates/Slice0/Obligations.lean ====
section
/-! DEFINITION. The statements for the provers. -/

open Sys2Proof Sys2Proof.Machine Sys2Proof.Safety

/-! ### Reset and the time base -/

/-- R98: the values State.reset holds. The table row of R98 (unspecified after power-on) is: no entry is listed. -/
def Obligations.ResetStateHoldsTheResetValues : Prop :=
  State.reset.fsm = .stopped ∧ State.reset.ctrl = 0 ∧ State.reset.lo = 0 ∧ State.reset.hi = 0
    ∧ State.reset.ftw = 0 ∧ State.reset.repeatN = 0 ∧ State.reset.stepLen = 0
    ∧ State.reset.done = false ∧ State.reset.err = .none ∧ State.reset.errCount = 0
    ∧ State.reset.cyc = 0 ∧ State.reset.lastCode = 0 ∧ State.reset.idx = 0 ∧ State.reset.now = 0
    ∧ State.reset.t0 = 0 ∧ State.reset.es = 0 ∧ State.reset.code = 0
    ∧ (∀ i, State.reset.table.read i = none) ∧ State.reset.status = 0 ∧ State.reset.cycles = 0

/-- R97, R98: what a cycle with rst = 1 leaves, from every state: the reset values, the step table and the parameters
as they were, outputs of 0, and no request transferred, whatever the host and the transport present. -/
def Obligations.ResetCycleLoadsTheResetValues : Prop :=
  ∀ s : State, s.pins.rst = true →
    ∃ t, step s = .next t
      ∧ t.fsm = .stopped ∧ t.ctrl = 0 ∧ t.lo = 0 ∧ t.hi = 0 ∧ t.ftw = 0 ∧ t.repeatN = 0 ∧ t.stepLen = 0
      ∧ t.done = false ∧ t.err = .none ∧ t.errCount = 0 ∧ t.cyc = 0 ∧ t.lastCode = 0 ∧ t.idx = 0
      ∧ t.now = 0 ∧ t.t0 = 0 ∧ t.es = 0 ∧ t.code = 0 ∧ t.status = 0
      ∧ t.table = s.table ∧ t.par = s.par
      ∧ t.out = { rdata := some 0, req := { valid := false, op := false, addr := 0, data := 0 },
                  dbgValid := false, dbgVolt := 0 }
      ∧ t.requests = s.requests ∧ t.wire = s.wire

/-- R25: NOW advances by one, modulo 2^64, in every cycle without reset, whatever the FSM and the host do. -/
def Obligations.NowAdvancesInEveryCycle : Prop :=
  ∀ s : State, s.pins.rst = false → ∃ t, step s = .next t ∧ t.now = s.now + 1 ∧ t.inputs = s.inputs.tail

/-! ### Every operation and every cycle completes -/

/-- R49: no encoding traps or is illegal, so every operation has a next state in every state. -/
def Obligations.EveryOperationCompletes : Prop :=
  ∀ (i : Instr) (s : State), ∃ t, exec i s = .next t

/-! ### The host port -/

/-- R52: the word a read of each register returns, and the word 0 of a reserved slot, below the step table or above it
(R49); a read changes nothing else. The codes of ERR in STATUS are those of R45. -/
def Obligations.ReadReturnsTheRegister : Prop :=
  ∀ (s : State) (d : Word),
    let result : Word → State := fun v => { s with out := { s.out with rdata := some v } }
    let errCode : BitVec 4 :=
      if s.err = .acquisition then 1 else if s.err = .transportSelect then 2
      else if s.err = .transportWrite then 3 else if s.err = .parameter then 4
      else if s.err = .frequency then 5 else if s.err = .mode then 6 else 0
    exec (.rd 0x000 d) s = .next (result (s.ctrl.setWidth 32))
    ∧ exec (.rd 0x001 d) s = .next (result 0)
    ∧ exec (.rd 0x002 d) s = .next (result s.lo)
    ∧ exec (.rd 0x003 d) s = .next (result s.hi)
    ∧ exec (.rd 0x004 d) s = .next (result s.ftw)
    ∧ exec (.rd 0x005 d) s = .next (result s.repeatN)
    ∧ exec (.rd 0x006 d) s = .next (result (s.stepLen.setWidth 32))
    ∧ exec (.rd 0x007 d) s = .next (result ((s.errCount ++ errCode ++ (0 : BitVec 2) ++ BitVec.ofBool s.done
        ++ BitVec.ofBool (decide (s.fsm ≠ .stopped))).setWidth 32))
    ∧ exec (.rd 0x008 d) s = .next (result (BitVec.ofNat 32 (min s.cyc.toNat (2 ^ 32 - 1))))
    ∧ exec (.rd 0x009 d) s = .next (result (s.lastCode.setWidth 32))
    ∧ exec (.rd 0x00A d) s = .next (result (s.idx.setWidth 32))
    ∧ ∀ a : BitVec 10, (0x00B ≤ a.toNat ∧ a.toNat < 0x100) ∨ 0x100 + s.par.stepDepth ≤ a.toNat →
        exec (.rd a d) s = .next (result 0)

/-- R52, R28: a read of a step entry returns the word last written and changes nothing else. An entry nothing has
written since power-on reads as some word, and the model's own counter of free values advances (log entry 4). -/
def Obligations.ReadOfStepEntry : Prop :=
  ∀ (s : State) (d : Word) (i : Nat) (a : BitVec 10), i < s.par.stepDepth → a.toNat = 0x100 + i →
    (∀ w, s.table.read i = some w →
      exec (.rd a d) s = .next { s with out := { s.out with rdata := some w } })
    ∧ (s.table.read i = none →
      ∃ x, exec (.rd a d) s = .next { s with out := { s.out with rdata := some x }, draws := s.draws + 1 })

/-- R53: what a write stores while no run is in progress, register by register; RO registers and reserved slots ignore
it (R49). -/
def Obligations.WriteStoresWhileStopped : Prop :=
  ∀ (s : State) (w : Word), s.fsm = .stopped →
    exec (.wr 0x000 w) s = .next { s with ctrl := w.extractLsb' 0 4 }
    ∧ exec (.wr 0x002 w) s = .next { s with lo := w }
    ∧ exec (.wr 0x003 w) s = .next { s with hi := w }
    ∧ exec (.wr 0x004 w) s = .next { s with ftw := w }
    ∧ exec (.wr 0x005 w) s = .next { s with repeatN := w }
    ∧ exec (.wr 0x006 w) s = .next { s with stepLen := w.extractLsb' 0 9 }
    ∧ (∀ (i : Nat) (a : BitVec 10), i < s.par.stepDepth → a.toNat = 0x100 + i →
        exec (.wr a w) s = .next { s with table := s.table.write i w })
    ∧ (∀ a : BitVec 10, 0x007 ≤ a.toNat → (a.toNat < 0x100 ∨ 0x100 + s.par.stepDepth ≤ a.toNat) →
        exec (.wr a w) s = .next s)

/-- R54: while a run is in progress a write to any slot but CMD has no effect, also in the cycle in which the run ends:
the whole cycle is as if no access were presented. In STOPPED the write is not ignored. -/
def Obligations.WriteIsIgnoredDuringARun : Prop :=
  (∀ (s : State) (a : BitVec 10) (w : Word), s.fsm ≠ .stopped → a ≠ 0x001 → exec (.wr a w) s = .next s)
  ∧ (∀ s : State, s.fsm ≠ .stopped → s.pins.hpWe = true → s.pins.hpAddr ≠ 0x001 →
      step s = step (s.withPins { s.pins with hpValid := false }))
  ∧ (∀ (s : State) (w : Word), s.fsm = .stopped → exec (.wr 0x002 w) s = .next { s with lo := w })

/-- R53, R43: a write to CMD is a command: opcode 0x01 in bits [7:0] is START, every other opcode changes nothing. -/
def Obligations.WriteToCmdIsACommand : Prop :=
  ∀ (s : State) (w : Word),
    (w.toNat % 256 = 1 → ∀ u, exec (.wr 0x001 w) s = exec (.start u) s)
    ∧ (w.toNat % 256 ≠ 1 → exec (.wr 0x001 w) s = .next s)

/-- R55: NOP changes no state, for every opcode and whether or not a run is in progress, and every write to CMD with
another opcode than 0x01 decodes to it. -/
def Obligations.NopChangesNothing : Prop :=
  (∀ (u : BitVec 24) (o : Byte) (s : State), exec (.nop u o) s = .next s)
  ∧ (∀ w : Word, w.toNat % 256 ≠ 1 →
      ∃ u o, decode (.hostOp (hostOpWord true 0x001 w)) = .ok (.nop u o))

/-- R14, R52, R53: a word written to a register while stopped is read back, less its reserved bits; and a step entry
written keeps every other entry. -/
def Obligations.WrittenRegisterReadsBack : Prop :=
  ∀ (s t : State) (a : BitVec 10) (w d : Word), s.fsm = .stopped → exec (.wr a w) s = .next t →
    (a = 0x000 → exec (.rd a d) t = .next { t with out := { t.out with rdata := some (w &&& 0x0000000F) } })
    ∧ (0x002 ≤ a.toNat → a.toNat ≤ 0x005 →
        exec (.rd a d) t = .next { t with out := { t.out with rdata := some w } })
    ∧ (a = 0x006 → exec (.rd a d) t = .next { t with out := { t.out with rdata := some (w &&& 0x000001FF) } })
    ∧ (0x100 ≤ a.toNat → a.toNat < 0x100 + s.par.stepDepth →
        exec (.rd a d) t = .next { t with out := { t.out with rdata := some w } }
          ∧ ∀ j, 0x100 + j ≠ a.toNat → t.table.read j = s.table.read j)

/-- The frame of WR in memory (R53): the entry stored to is the one the address names; every other entry of the step
table reads as before, and a write to any other slot, or during a run, stores to no entry. -/
def Obligations.WriteStoresOneEntry : Prop :=
  ∀ (s t : State) (a : BitVec 10) (w : Word), exec (.wr a w) s = .next t →
    (∀ i, regOf s.par.stepDepth a = .step i → s.fsm = .stopped →
      t.table.read i = some w ∧ ∀ j, j ≠ i → t.table.read j = s.table.read j)
    ∧ ((∀ i, regOf s.par.stepDepth a ≠ .step i) ∨ s.fsm ≠ .stopped → t.table = s.table)
    ∧ t.par = s.par ∧ t.now = s.now ∧ t.es = s.es ∧ t.code = s.code ∧ t.lastCode = s.lastCode
    ∧ t.inputs = s.inputs ∧ t.out = s.out ∧ t.outstanding = s.outstanding ∧ t.requests = s.requests
    ∧ t.wire = s.wire ∧ t.draws = s.draws

/-! ### START and its rejections -/

/-- R56: an accepted START. -/
def Obligations.AcceptedStartBeginsARun : Prop :=
  ∀ (u : BitVec 24) (s : State), s.fsm = .stopped → s.pins.tpAvail = true → s.ctrl.extractLsb' 0 2 ≠ 3 →
    s.ftw ≠ 0 →
    (s.ctrl.extractLsb' 0 2 = 0 → 1 ≤ s.stepLen.toNat ∧ s.stepLen.toNat ≤ s.par.stepDepth) →
    exec (.start u) s = .next { s with
      t0 := s.now + 1, cyc := 0, idx := 0, done := false, err := .none, errCount := 0,
      fsm := if s.ctrl.extractLsb' 0 2 = 0 then .sEntry else .pSample }

/-- R56, R57, R89: a START in STOPPED whose checks fail records the first of ACQUISITION, MODE, FREQUENCY, PARAMETER
and changes nothing else; STATUS then reads as that code of R45 alone (95_test_vectors.md section 2.10). -/
def Obligations.RejectedStartRecordsTheFirstError : Prop :=
  ∀ (u : BitVec 24) (s : State) (e : ErrKind) (w : Word), s.fsm = .stopped →
    ((s.pins.tpAvail = false ∧ e = .acquisition ∧ w = 0x00000010)
      ∨ (s.pins.tpAvail = true ∧ s.ctrl.extractLsb' 0 2 = 3 ∧ e = .mode ∧ w = 0x00000060)
      ∨ (s.pins.tpAvail = true ∧ s.ctrl.extractLsb' 0 2 ≠ 3 ∧ s.ftw = 0 ∧ e = .frequency ∧ w = 0x00000050)
      ∨ (s.pins.tpAvail = true ∧ s.ctrl.extractLsb' 0 2 = 0 ∧ s.ftw ≠ 0
          ∧ (s.stepLen.toNat = 0 ∨ s.par.stepDepth < s.stepLen.toNat) ∧ e = .parameter ∧ w = 0x00000040)) →
    ∃ t, exec (.start u) s = .next t ∧ t = { s with err := e, done := false, errCount := 0 } ∧ t.status = w

/-- R58: a START while a run is in progress has no effect. -/
def Obligations.StartDuringARunIsIgnored : Prop :=
  ∀ (u : BitVec 24) (s : State), s.fsm ≠ .stopped → exec (.start u) s = .next s

/-- R44, R56: once the device is acquired, what a START does in STOPPED is what the row of CTRL.MODE does there. -/
def Obligations.StartRunsTheSelectedMode : Prop :=
  ∀ (u : BitVec 24) (s : State) (i : Instr), s.fsm = .stopped → s.pins.tpAvail = true →
    decode (.ctrlMode (s.ctrl.extractLsb' 0 2)) = .ok i → exec (.start u) s = exec i s

/-- R44, R56: the reserved mode is refused with ERR = MODE, before the check of FTW, and no run begins. -/
def Obligations.ReservedModeIsRejected : Prop :=
  ∀ s : State, s.fsm = .stopped →
    exec .modeReserved s = .next { s with err := .mode, done := false, errCount := 0 }

/-! ### The periodic modes -/

/-- R70, R61, R64, R59, R79: a sine P_SAMPLE that does not end the run. -/
def Obligations.SineSampleIsIssued : Prop :=
  ∀ (s : State) (P : Nat) (v : Int), s.fsm = .pSample → P = (s.now - s.t0).toNat * s.ftw.toNat →
    (s.repeatN.toNat = 0 ∨ P / 2 ^ 32 < s.repeatN.toNat) →
    v = s.lo.toInt
      + (sin14 s.par.sineImpl (BitVec.ofNat 14 (P % 2 ^ 32 / 2 ^ 18)) + 32767) * (s.hi.toInt - s.lo.toInt) / 65534 →
    exec .modeSine s = .next { s with
      cyc := BitVec.ofNat 64 (P / 2 ^ 32), code := quantize s.par.fullScaleUv v, fsm := .selReq,
      out := { s.out with
        dbgValid := s.ctrl.getLsbD 3, dbgVolt := if s.ctrl.getLsbD 3 then BitVec.ofInt 32 v else 0 } }

/-- R70, R61, R65, R59, R79: a sawtooth P_SAMPLE that does not end the run. -/
def Obligations.SawtoothSampleIsIssued : Prop :=
  ∀ (s : State) (P : Nat) (v : Int), s.fsm = .pSample → P = (s.now - s.t0).toNat * s.ftw.toNat →
    (s.repeatN.toNat = 0 ∨ P / 2 ^ 32 < s.repeatN.toNat) →
    v = s.lo.toInt + ((P % 2 ^ 32 : Nat) : Int) * (s.hi.toInt - s.lo.toInt) / 2 ^ 32 →
    exec .modeSawtooth s = .next { s with
      cyc := BitVec.ofNat 64 (P / 2 ^ 32), code := quantize s.par.fullScaleUv v, fsm := .selReq,
      out := { s.out with
        dbgValid := s.ctrl.getLsbD 3, dbgVolt := if s.ctrl.getLsbD 3 then BitVec.ofInt 32 v else 0 } }

/-- R70, R78: the P_SAMPLE that sees the repeat count reached counts it and stops with DONE, with no write and no
diagnostic output. -/
def Obligations.PeriodicRunStopsAtTheRepeatCount : Prop :=
  ∀ (s : State) (n : Nat), s.fsm = .pSample → n = (s.now - s.t0).toNat * s.ftw.toNat / 2 ^ 32 →
    0 < s.repeatN.toNat → s.repeatN.toNat ≤ n → ∀ i, i = Instr.modeSine ∨ i = Instr.modeSawtooth →
    exec i s = .next { s with
      cyc := BitVec.ofNat 64 n, fsm := .stopped, done := true, err := .none, errCount := 0 }

/-! ### Step mode -/

/-- R71, R66: S_ENTRY issues the entry IDX, started in this cycle. An entry that nothing has written is issued too, with
some word, and the model's own counter of free values advances (log entry 4). -/
def Obligations.FirstStepEntryIsIssued : Prop :=
  ∀ s : State, s.fsm = .sEntry →
    let issued : Word → State := fun w => { s with
      es := s.now, code := quantize s.par.fullScaleUv w.toInt, fsm := .selReq,
      out := { s.out with dbgValid := s.ctrl.getLsbD 3, dbgVolt := if s.ctrl.getLsbD 3 then w else 0 } }
    (∀ w, s.table.read s.idx.toNat = some w → exec .modeStep s = .next (issued w))
    ∧ (s.table.read s.idx.toNat = none →
      ∃ w, exec .modeStep s = .next { issued w with draws := s.draws + 1 })

/-- R76, R78: one S_HOLD cycle. Less than a period after the entry started nothing changes. After it, the next entry is
issued in the same cycle; at the end of the last entry a pass is counted, and the sequence wraps to entry 0, or stops
with DONE when the repeat count is reached, with IDX, CODE and ES as they were. An entry that nothing has written is
issued with some word, which is the model's choice (log entry 4). -/
def Obligations.HoldKeepsAdvancesWrapsOrStops : Prop :=
  ∀ s : State, s.fsm = .sHold →
    let issued : State → Nat → Word → State := fun u j w => { u with
      idx := BitVec.ofNat 8 j, es := s.now, code := quantize s.par.fullScaleUv w.toInt, fsm := .selReq,
      out := { s.out with dbgValid := s.ctrl.getLsbD 3, dbgVolt := if s.ctrl.getLsbD 3 then w else 0 } }
    let issues : State → Nat → Prop := fun u j =>
      (∀ w, s.table.read j = some w → exec .modeStep s = .next (issued u j w))
      ∧ (s.table.read j = none → ∃ w, exec .modeStep s = .next { issued u j w with draws := s.draws + 1 })
    ((s.now - s.es).toNat * s.ftw.toNat < 2 ^ 32 → exec .modeStep s = .next s)
    ∧ (2 ^ 32 ≤ (s.now - s.es).toNat * s.ftw.toNat →
      (s.idx.toNat + 1 ≠ s.stepLen.toNat → issues s (s.idx.toNat + 1))
      ∧ (s.idx.toNat + 1 = s.stepLen.toNat → s.repeatN.toNat = 0 ∨ s.cyc.toNat + 1 < s.repeatN.toNat →
        issues { s with cyc := s.cyc + 1 } 0)
      ∧ (s.idx.toNat + 1 = s.stepLen.toNat → 0 < s.repeatN.toNat → s.repeatN.toNat ≤ s.cyc.toNat + 1 →
        exec .modeStep s = .next { s with
          cyc := s.cyc + 1, fsm := .stopped, done := true, err := .none, errCount := 0 }))

/-- The frame of the four modes, in every state and for every table (R70, R71, R76, R78): the configuration, the step
table, LAST_CODE, NOW and the transport's side are unchanged; outside STOPPED so is T0, and only the debug pins of
the outputs change. -/
def Obligations.ModesKeepConfigurationAndLastCode : Prop :=
  ∀ (i : Instr) (s t : State),
    i = .modeStep ∨ i = .modeSine ∨ i = .modeSawtooth ∨ i = .modeReserved → exec i s = .next t →
    SameConfig s t ∧ (∀ j, t.table.read j = s.table.read j)
    ∧ t.lastCode = s.lastCode ∧ t.now = s.now ∧ t.inputs = s.inputs ∧ t.outstanding = s.outstanding
    ∧ t.requests = s.requests ∧ t.wire = s.wire ∧ t.out.rdata = s.out.rdata ∧ t.out.req = s.out.req
    ∧ (s.fsm ≠ .stopped → t.t0 = s.t0)
    ∧ (t.fsm ≠ .stopped → s.fsm ≠ .stopped → t.done = s.done ∧ t.err = s.err ∧ t.errCount = s.errCount)

/-! ### The transport requests and the DAC frame -/

/-- R72, R74, R48: SEL_REQ presents SELECT at the address, and WR_REQ presents WRITE with the frame of the code; when
the transport takes the request, and only then, the WAIT state follows. -/
def Obligations.RequestIsPresentedUntilTaken : Prop :=
  ∀ (a : BusAddr) (c : Code) (s : State),
    (s.fsm = .selReq →
      (s.pins.tpReqReady = false → exec (.tpSelect a) s = .next { s with
        out := { s.out with req := { valid := true, op := false, addr := a, data := 0 } } })
      ∧ (s.pins.tpReqReady = true → exec (.tpSelect a) s = .next { s with
        out := { s.out with req := { valid := true, op := false, addr := a, data := 0 } },
        fsm := .selWait, outstanding := s.outstanding + 1,
        requests := s.requests ++ [(0 : BitVec 1) ++ a ++ (0 : BitVec 16)] }))
    ∧ (s.fsm = .wrReq →
      (s.pins.tpReqReady = false → exec (.tpWrite a c) s = .next { s with
        out := { s.out with req := { valid := true, op := true, addr := a, data := c.setWidth 16 } } })
      ∧ (s.pins.tpReqReady = true → exec (.tpWrite a c) s = .next { s with
        out := { s.out with req := { valid := true, op := true, addr := a, data := c.setWidth 16 } },
        fsm := .wrWait, outstanding := s.outstanding + 1,
        requests := s.requests ++ [(1 : BitVec 1) ++ a ++ c.setWidth 16] }))

/-- R73, R78: SEL_WAIT waits for a response; OK = 1 leads to WR_REQ and OK = 0 stops the run with TRANSPORT_SELECT,
whatever COUNT is, so that STATUS reads 0x20 (95_test_vectors.md section 2.11). -/
def Obligations.SelectResponseIsTaken : Prop :=
  ∀ (a : BusAddr) (s : State), s.fsm = .selWait →
    (s.pins.tpRspValid = false → exec (.tpSelect a) s = .next s)
    ∧ (s.pins.tpRspValid = true → s.pins.tpRsp.ok = true → exec (.tpSelect a) s = .next { s with fsm := .wrReq })
    ∧ (s.pins.tpRspValid = true → s.pins.tpRsp.ok = false →
        ∃ t, exec (.tpSelect a) s = .next t
          ∧ t = { s with fsm := .stopped, done := false, err := .transportSelect, errCount := 0 }
          ∧ t.status = 0x00000020)

/-- R75, R77, R78, R47: WR_WAIT waits for a response; OK = 1 with COUNT at least 2 records LAST_CODE and goes on, or
ends a single-entry step run; anything else stops the run with TRANSPORT_WRITE and the COUNT. STATUS then reads 0x30
with the COUNT in bits 9 and 8, or 0x2 for the single-entry run (95_test_vectors.md section 2.11). -/
def Obligations.WriteResponseIsTaken : Prop :=
  ∀ (a : BusAddr) (c : Code) (s : State), s.fsm = .wrWait →
    (s.pins.tpRspValid = false → exec (.tpWrite a c) s = .next s)
    ∧ (s.pins.tpRspValid = true → (s.pins.tpRsp.ok = false ∨ s.pins.tpRsp.count.toNat < 2) →
        ∃ t, exec (.tpWrite a c) s = .next t
          ∧ t = { s with fsm := .stopped, done := false, err := .transportWrite, errCount := s.pins.tpRsp.count }
          ∧ t.status = BitVec.ofNat 32 (0x30 + 0x100 * s.pins.tpRsp.count.toNat))
    ∧ (s.pins.tpRspValid = true → s.pins.tpRsp.ok = true → 2 ≤ s.pins.tpRsp.count.toNat →
        (s.ctrl.extractLsb' 0 2 ≠ 0 →
          exec (.tpWrite a c) s = .next { s with lastCode := s.code, fsm := .pSample })
        ∧ (s.ctrl.extractLsb' 0 2 = 0 → s.stepLen.toNat = 1 →
          ∃ t, exec (.tpWrite a c) s = .next t
            ∧ t = { s with lastCode := s.code, fsm := .stopped, done := true, err := .none, errCount := 0 }
            ∧ t.status = 0x00000002)
        ∧ (s.ctrl.extractLsb' 0 2 = 0 → s.stepLen.toNat ≠ 1 →
          exec (.tpWrite a c) s = .next { s with lastCode := s.code, fsm := .sHold }))

/-- R48, R34: the frame is two bytes, `{0b0000, code[11:8]}` and then `code[7:0]`, and as a 16-bit word it is the code
zero-extended; nothing else changes. -/
def Obligations.FrameIsTwoBytesHighFirst : Prop :=
  ∀ (c : Code) (s : State),
    exec (.dacFrame c) s = .next { s with
      wire := s.wire ++ [BitVec.ofNat 8 (c.toNat / 256), BitVec.ofNat 8 (c.toNat % 256)] }
    ∧ encode (.dacFrame c) = .frame16 (c.setWidth 16)

/-- The model's reading of R68 to R76 (log entries 7 and 19): outside the states an operation has a part in, it changes
nothing: the modes in the REQ and WAIT states, a SELECT outside SEL_REQ and SEL_WAIT, a WRITE outside WR_REQ and
WR_WAIT. -/
def Obligations.OperationsOutsideTheirStatesChangeNothing : Prop :=
  ∀ (s : State) (a : BusAddr) (c : Code) (m : BitVec 2),
    (s.fsm = .selReq ∨ s.fsm = .selWait ∨ s.fsm = .wrReq ∨ s.fsm = .wrWait →
      ∀ i, decode (.ctrlMode m) = .ok i → exec i s = .next s)
    ∧ (s.fsm ≠ .selReq → s.fsm ≠ .selWait → exec (.tpSelect a) s = .next s)
    ∧ (s.fsm ≠ .wrReq → s.fsm ≠ .wrWait → exec (.tpWrite a c) s = .next s)

/-! ### One cycle -/

/-- R9, R42: a cycle with a host access runs the decoded HOSTOP and the loop controller's operations, all chosen by the
state at the start of the cycle, and NOW advances at its end. That the host operation is applied first, and the
controller's operations to the state it leaves, is the model's order (log entry 7); in R9 both land together. -/
def Obligations.StepRunsTheDecodedHostOperation : Prop :=
  ∀ (s t u : State) (i : Instr), s.pins.rst = false → s.pins.hpValid = true →
    decode (.hostOp (BitVec.ofBool s.pins.hpWe ++ s.pins.hpAddr ++ s.pins.hpWdata)) = .ok i →
    exec i s.beginCycle = .next t → runOps s.loopOps t = .next u →
    step s = .next u.endCycle

/-- With no host access, the step is that of the FSM's operation (R69 to R76): nothing in STOPPED; the row of CTRL.MODE
in P_SAMPLE, S_ENTRY and S_HOLD; the request's operation in the REQ and WAIT states, with the DAC frame of the code in
the cycle in which a WRITE transfers. Which row of the table acts in which FSM state is the model's reading (log entry
7), and that the frame's row acts in the cycle of the transfer is its choice (log entry 20). -/
def Obligations.StepRunsTheControllersOperation : Prop :=
  ∀ s : State, s.pins.rst = false → s.pins.hpValid = false →
    (s.fsm = .stopped → step s = .next s.beginCycle.endCycle)
    ∧ (s.fsm = .pSample ∨ s.fsm = .sEntry ∨ s.fsm = .sHold →
        ∀ i t, decode (.ctrlMode (s.ctrl.extractLsb' 0 2)) = .ok i → exec i s.beginCycle = .next t →
          step s = .next t.endCycle)
    ∧ (s.fsm = .selReq ∨ s.fsm = .selWait →
        ∀ i t, decode (.tpReq ((0 : BitVec 1) ++ s.busAddr ++ (0 : BitVec 16))) = .ok i →
          exec i s.beginCycle = .next t → step s = .next t.endCycle)
    ∧ (s.fsm = .wrWait ∨ (s.fsm = .wrReq ∧ s.pins.tpReqReady = false) →
        ∀ i t, decode (.tpReq ((1 : BitVec 1) ++ s.busAddr ++ s.code.setWidth 16)) = .ok i →
          exec i s.beginCycle = .next t → step s = .next t.endCycle)
    ∧ (s.fsm = .wrReq → s.pins.tpReqReady = true →
        ∀ i j t u, decode (.tpReq ((1 : BitVec 1) ++ s.busAddr ++ s.code.setWidth 16)) = .ok i →
          decode (.frame16 (s.code.setWidth 16)) = .ok j →
          exec i s.beginCycle = .next t → exec j t = .next u → step s = .next u.endCycle)

/-- R68: what the request pins show in a cycle without reset: a SELECT in SEL_REQ, a WRITE of CODE in WR_REQ, at the
address CTRL.ADDR_SEL selects, and nothing in every other state. -/
def Obligations.RequestPinsFollowTheFsm : Prop :=
  ∀ s t : State, s.pins.rst = false → step s = .next t →
    t.out.req =
      if s.fsm = .selReq then
        { valid := true, op := false, addr := if s.ctrl.getLsbD 2 then s.par.addrHi else s.par.addrLo, data := 0 }
      else if s.fsm = .wrReq then
        { valid := true, op := true, addr := if s.ctrl.getLsbD 2 then s.par.addrHi else s.par.addrLo,
          data := s.code.setWidth 16 }
      else { valid := false, op := false, addr := 0, data := 0 }

/-- R79: dbg_valid is 1 exactly in the issue cycles of P_SAMPLE, S_ENTRY and S_HOLD with VERBOSE = 1, and dbg_volt is
0 in every other cycle. -/
def Obligations.DiagnosticPortReportsIssuesOnly : Prop :=
  ∀ s t : State, s.pins.rst = false → step s = .next t →
    (t.out.dbgValid = true ↔ s.ctrl.getLsbD 3 = true ∧ t.fsm = .selReq
      ∧ (s.fsm = .pSample ∨ s.fsm = .sEntry ∨ s.fsm = .sHold))
    ∧ (t.out.dbgValid = false → t.out.dbgVolt = 0)

/-- R33, R52: hp_rdata has a meaning exactly after a read, and then it is RegRead of the state at the start of the
cycle, before the loop-controller step. -/
def Obligations.ReadDataAreThoseOfTheStartOfTheCycle : Prop :=
  ∀ s t : State, s.pins.rst = false → step s = .next t →
    t.out.rdata = if s.pins.hpValid && !s.pins.hpWe then some (s.regRead (regOf s.par.stepDepth s.pins.hpAddr))
      else none

/-- R54, R28: no cycle of a run without reset changes the configuration or the step table, whatever the host
presents. -/
def Obligations.RunKeepsItsConfiguration : Prop :=
  ∀ s t : State, s.fsm ≠ .stopped → s.pins.rst = false → step s = .next t → SameConfig s t

/-- R28, R97: a step entry changes only by a host write of that entry while stopped, not even by a reset, and then it
holds the word written; every other entry reads as before. -/
def Obligations.StepEntryChangesOnlyByItsWrite : Prop :=
  ∀ (s t : State) (i : Nat), step s = .next t → t.table.read i ≠ s.table.read i →
    s.fsm = .stopped ∧ s.pins.rst = false ∧ s.pins.hpValid = true ∧ s.pins.hpWe = true
      ∧ s.pins.hpAddr.toNat = 0x100 + i ∧ i < s.par.stepDepth ∧ t.table.read i = some s.pins.hpWdata

/-- R23: LAST_CODE is written by a successful WRITE response only, and then with CODE. -/
def Obligations.LastCodeIsTheLastSuccessfulWrite : Prop :=
  ∀ s t : State, s.pins.rst = false → step s = .next t →
    t.lastCode =
      if s.fsm = .wrWait ∧ s.pins.tpRspValid = true ∧ s.pins.tpRsp.ok = true ∧ 2 ≤ s.pins.tpRsp.count.toNat
      then s.code else s.lastCode

/-- R69, R56: the FSM leaves STOPPED only by a START presented in that cycle that passes the four checks; it then enters
P_SAMPLE or S_ENTRY with the status cleared, no request made and no pass counted. R101 item 3: STATUS reads as RUNNING
alone in the next cycle, and the run has not ended in that cycle nor in the two after it, whatever the host and the
transport do without a reset (log entry 17). -/
def Obligations.OnlyAnAcceptedStartLeavesStopped : Prop :=
  ∀ s t : State, s.fsm = .stopped → step s = .next t → t.fsm ≠ .stopped →
    s.pins.rst = false ∧ s.pins.hpValid = true ∧ s.pins.hpWe = true ∧ s.pins.hpAddr = 0x001
      ∧ s.pins.hpWdata.toNat % 256 = 1 ∧ s.pins.tpAvail = true ∧ s.ctrl.extractLsb' 0 2 ≠ 3 ∧ s.ftw ≠ 0
      ∧ (s.ctrl.extractLsb' 0 2 = 0 → 1 ≤ s.stepLen.toNat ∧ s.stepLen.toNat ≤ s.par.stepDepth)
      ∧ t.fsm = (if s.ctrl.extractLsb' 0 2 = 0 then .sEntry else .pSample)
      ∧ t.t0 = t.now ∧ t.cyc = 0 ∧ t.idx = 0 ∧ t.requests = s.requests
      ∧ t.done = false ∧ t.err = .none ∧ t.errCount = 0 ∧ t.status = 1
      ∧ ∀ n : Nat, n ≤ 2 → (∀ p ∈ t.inputs, p.rst = false) →
          ∃ u, Host.Core.run core n t = .next u ∧ u.fsm ≠ .stopped

/-- R82: a wait of the transport changes only NOW (and the model's pins), with no timeout: in the REQ states until the
request is taken, in the WAIT states until a response comes. -/
def Obligations.WaitingChangesOnlyNow : Prop :=
  ∀ s : State, s.pins.rst = false → s.pins.hpValid = false → s.pins.tpRspValid = false →
    ((s.fsm = .selWait ∨ s.fsm = .wrWait) → step s = .next { s with
      now := s.now + 1, inputs := s.inputs.tail, out := Outputs.quiet })
    ∧ (s.fsm = .selReq → s.pins.tpReqReady = false → step s = .next { s with
      now := s.now + 1, inputs := s.inputs.tail,
      out := { Outputs.quiet with req := { valid := true, op := false, addr := s.busAddr, data := 0 } } })
    ∧ (s.fsm = .wrReq → s.pins.tpReqReady = false → step s = .next { s with
      now := s.now + 1, inputs := s.inputs.tail,
      out := { Outputs.quiet with
        req := { valid := true, op := true, addr := s.busAddr, data := s.code.setWidth 16 } } })

/-- R68: a response presented outside the WAIT states is ignored: but for the model's count of answers owed, the cycle
is the same for every response. -/
def Obligations.UnsolicitedResponseIsIgnored : Prop :=
  ∀ (s : State) (v : Bool) (r : TpRsp), s.fsm ≠ .selWait → s.fsm ≠ .wrWait →
    ∃ t u, step s = .next t ∧ step (s.withPins { s.pins with tpRspValid := v, tpRsp := r }) = .next u
      ∧ { u with outstanding := t.outstanding } = t

/-- R86: tp_avail is sampled by START only: no cycle depends on it but one in STOPPED, without reset, in which a write to
CMD with the low byte 0x01 is presented. -/
def Obligations.AvailabilityIsSampledByStartOnly : Prop :=
  ∀ (s : State) (b : Bool),
    s.pins.rst = true ∨ s.fsm ≠ .stopped ∨ s.pins.hpValid = false ∨ s.pins.hpWe = false
      ∨ ¬(s.pins.hpAddr = 0x001 ∧ s.pins.hpWdata.toNat % 256 = 1) →
    step (s.withPins { s.pins with tpAvail := b }) = step s

/-! ### Encodings -/

/-- R42 to R48: decoding the encoding of a well-formed operation gives it back, and so it is of a transport response,
whose format TPRSP (R47) stands for no operation. -/
def Obligations.DecodeOfEncode : Prop :=
  (∀ i : Instr, i.wf = true → decode (encode i) = .ok i) ∧ (∀ r : TpRsp, decodeTpRsp (encodeTpRsp r) = r)

/-- R42 to R48: an encoding that decodes is the encoding of what it decodes to, which is well-formed, so no two
operations share a word and no bit is dropped; every HOSTOP word and every mode decodes (R49); and a TPRSP word is the
encoding of the response it decodes to (R47). -/
def Obligations.EncodeOfDecode : Prop :=
  (∀ (e : Encoding) (i : Instr), decode e = .ok i → i.wf = true ∧ encode i = e ∧ e.format = i.format)
  ∧ (∀ w, ∃ i, decode (.hostOp w) = .ok i) ∧ (∀ m, ∃ i, decode (.ctrlMode m) = .ok i)
  ∧ (∀ w : BitVec 3, encodeTpRsp (decodeTpRsp w) = w)

/-- Words written out from the encodings of R42, R43, R44 and R46 to R48 (95_test_vectors.md section 2.8). That a TPREQ or
FRAME16 word which no row of the table has is refused by name is the model's choice (log entry 11). -/
def Obligations.WrittenOutWordsDecode : Prop :=
  decode (.hostOp 0x40100000001) = .ok (.start 0)
  ∧ decode (.hostOp 0x401FFFFFF01) = .ok (.start 0xFFFFFF)
  ∧ decode (.hostOp 0x40100000080) = .ok (.nop 0 0x80)
  ∧ decode (.hostOp 0x403002625A0) = .ok (.wr 3 2500000)
  ∧ decode (.hostOp 0x500FFFE7960) = .ok (.wr 0x100 (BitVec.ofInt 32 (-100000)))
  ∧ decode (.hostOp 0x00700000000) = .ok (.rd 7 0)
  ∧ decode (.ctrlMode 0) = .ok .modeStep ∧ decode (.ctrlMode 1) = .ok .modeSine
  ∧ decode (.ctrlMode 2) = .ok .modeSawtooth ∧ decode (.ctrlMode 3) = .ok .modeReserved
  ∧ decode (.tpReq 0x610000) = .ok (.tpSelect 0x61)
  ∧ decode (.tpReq 0xE00ABC) = .ok (.tpWrite 0x60 0xABC)
  ∧ decode (.tpReq 0x600001) = .error .selectWithData
  ∧ decode (.frame16 0x0ABC) = .ok (.dacFrame 0xABC)
  ∧ decode (.frame16 0x1ABC) = .error .frameUpperNibble
  ∧ decodeTpRsp 0b110 = { ok := true, count := 2 } ∧ decodeTpRsp 0b001 = { ok := false, count := 1 }

/-! ### The datapath -/

/-- R59, R60 items 1 and 2: the range, the clamps and the boundary v = FS of the quantizer. -/
def Obligations.QuantizerRangeAndClamps : Prop :=
  ∀ (fs : Nat) (v : Int), 1 ≤ fs →
    quantizeNat fs v ≤ 4095 ∧ (quantize fs v).toNat = quantizeNat fs v
    ∧ (v < 0 → quantizeNat fs v = 0) ∧ ((fs : Int) < v → quantizeNat fs v = 4095)
    ∧ quantizeNat fs fs = 4095
    ∧ (0 ≤ v → v < fs → (quantizeNat fs v : Int) = v * 4096 / fs)

/-- R60 items 3 and 4: the quantizer is monotone, and the voltages of each code. -/
def Obligations.QuantizerIsMonotoneWithItsThresholds : Prop :=
  ∀ (fs : Nat) (v w : Int), 1 ≤ fs →
    (v ≤ w → quantizeNat fs v ≤ quantizeNat fs w)
    ∧ (∀ k : Nat, k ≤ 4094 →
        (quantizeNat fs v = k ↔
          (((k * fs + 4095) / 4096 : Nat) : Int) ≤ v ∧ v ≤ ((((k + 1) * fs + 4095) / 4096 : Nat) : Int) - 1
          ∨ k = 0 ∧ v < 0))
    ∧ (quantizeNat fs v = 4095 ↔ (((4095 * fs + 4095) / 4096 : Nat) : Int) ≤ v)

/-- R61, R62: for every clock frequency F, with t = E / F and f = FTW × F / 2^32, the periods are floor(t·f) and the
phase is the fraction of t·f; n fits 64 bits. So it is for the clock of this hardware, whose frequency is open (R5). -/
def Obligations.PhaseIsTheFractionOfThePeriod : Prop :=
  ∀ (e : Ticks) (ftw : Word),
    (∀ F : ℝ, 0 < F →
      ((phasePeriods e ftw : ℤ) = ⌊((e.toNat : ℝ) / F) * ((ftw.toNat : ℝ) * F / 2 ^ 32)⌋)
      ∧ ((phaseTheta e ftw).toNat : ℝ) / 2 ^ 32
          = Int.fract (((e.toNat : ℝ) / F) * ((ftw.toNat : ℝ) * F / 2 ^ 32)))
    ∧ phasePeriods e ftw < 2 ^ 64
    ∧ ∀ t f : ℝ, IsSeconds e t → IsFrequency ftw f →
        (phasePeriods e ftw : ℤ) = ⌊t * f⌋ ∧ ((phaseTheta e ftw).toNat : ℝ) / 2 ^ 32 = Int.fract (t * f)

/-- R63, R83, R84: the values of SIN14. For either implementation the range, the four exact values, the distance from the
exact sine (within ERR_SIN, at most 2, and 1/2 for the LUT) and the symmetries, S1 to S4. For the ROM every entry is
the rounded sine, the entries rise, and their sum is R84's check value. -/
def Obligations.SineTableRangeAndSymmetry : Prop :=
  (∀ impl : SineImpl,
    (∀ k, -32767 ≤ sin14 impl k ∧ sin14 impl k ≤ 32767)
    ∧ sin14 impl 0 = 0 ∧ sin14 impl 4096 = 32767 ∧ sin14 impl 8192 = 0 ∧ sin14 impl 12288 = -32767
    ∧ (∀ k : BitVec 14,
        |(sin14 impl k : ℝ) - 32767 * Real.sin (2 * Real.pi * (k.toNat : ℝ) / 16384)| ≤ (sineErr impl : ℝ))
    ∧ sineErr impl ≤ 2
    ∧ (∀ k : Nat, 0 < k → k < 8192 → sin14 impl (BitVec.ofNat 14 (8192 - k)) = sin14 impl (BitVec.ofNat 14 k))
    ∧ (∀ k : Nat, k < 8192 → sin14 impl (BitVec.ofNat 14 (k + 8192)) = -sin14 impl (BitVec.ofNat 14 k)))
  ∧ sineErr .lut = 1 / 2
  ∧ (∀ j : Nat, j ≤ 4096 → (romQ j : ℤ) = round (32767 * Real.sin (2 * Real.pi * (j : ℝ) / 16384)))
  ∧ (∀ j : Nat, j < 4096 → romQ j ≤ romQ (j + 1))
  ∧ ((List.range 4097).map romQ).sum = 85459469
  ∧ (∀ k : BitVec 14, k.toNat ≤ 4096 → sin14 .lut k = romQ k.toNat)

/-- R64: the sine voltage lies between LO and HI; s = 32767 gives HI, s = −32767 gives LO, at the phases of R64's
corner cases. -/
def Obligations.SineVoltageStaysBetweenLoAndHi : Prop :=
  ∀ (impl : SineImpl) (lo hi theta : Word),
    min lo.toInt hi.toInt ≤ sineV impl lo hi theta ∧ sineV impl lo hi theta ≤ max lo.toInt hi.toInt
    ∧ (BitVec.ofInt 32 (sineV impl lo hi theta)).toInt = sineV impl lo hi theta
    ∧ sineV impl lo hi 0x40000000 = hi.toInt ∧ sineV impl lo hi 0xC0000000 = lo.toInt
    ∧ sineV impl lo hi 0 = lo.toInt + (hi.toInt - lo.toInt) / 2

/-- R65: the ramp starts at LO, stays in [LO, HI) when it rises and in [HI, LO] when it falls, and ends within 1 µV of
HI. -/
def Obligations.SawtoothVoltageRampsFromLoToHi : Prop :=
  ∀ lo hi theta : Word,
    (lo.toInt < hi.toInt → lo.toInt ≤ sawV lo hi theta ∧ sawV lo hi theta < hi.toInt
      ∧ sawV lo hi 0xFFFFFFFF = hi.toInt - 1)
    ∧ (hi.toInt < lo.toInt → hi.toInt ≤ sawV lo hi theta ∧ sawV lo hi theta ≤ lo.toInt
      ∧ sawV lo hi 0xFFFFFFFF = hi.toInt)
    ∧ (lo = hi → sawV lo hi theta = lo.toInt)
    ∧ sawV lo hi 0 = lo.toInt
    ∧ (BitVec.ofInt 32 (sawV lo hi theta)).toInt = sawV lo hi theta

/-- R67: the sawtooth is the source's formula up to the floor, for every clock frequency. -/
def Obligations.SawtoothFollowsTheSourceFormula : Prop :=
  ∀ (lo hi : Word) (e : Ticks) (ftw : Word) (F t f vsrc : ℝ), 0 < F → ftw ≠ 0 →
    t = (e.toNat : ℝ) / F → f = (ftw.toNat : ℝ) * F / 2 ^ 32 →
    vsrc = (t - (⌊t * f⌋ : ℝ) * (1 / f)) * ((hi.toInt : ℝ) - lo.toInt) * f + lo.toInt →
    vsrc - 1 < (sawV lo hi (phaseTheta e ftw) : ℝ) ∧ (sawV lo hi (phaseTheta e ftw) : ℝ) ≤ vsrc

/-- R67: the sine is the source's formula within R67's bound, wherever SIN14 is within 1/2 of the exact sine, which S3 of
R63 says of the ROM (SineTableRangeAndSymmetry; log entry 23). -/
def Obligations.SineFollowsTheSourceFormula : Prop :=
  ∀ (impl : SineImpl) (lo hi : Word) (e : Ticks) (ftw : Word) (F t f vsrc : ℝ), 0 < F →
    t = (e.toNat : ℝ) / F → f = (ftw.toNat : ℝ) * F / 2 ^ 32 →
    vsrc = (Real.sin (2 * Real.pi * f * t) + 1) * ((hi.toInt : ℝ) - lo.toInt) / 2 + lo.toInt →
    |(sin14 impl (sineIndex (phaseTheta e ftw)) : ℝ)
        - 32767 * Real.sin (2 * Real.pi * ((sineIndex (phaseTheta e ftw)).toNat : ℝ) / 16384)| ≤ 1 / 2 →
    |(sineV impl lo hi (phaseTheta e ftw) : ℝ) - vsrc|
      ≤ |(hi.toInt : ℝ) - lo.toInt| / 2 * (2 * Real.pi / 16384 + (1 / 2) / 32767) + 1

/-! ### Invariants of every step -/

/-- The invariant holds at reset, for every schedule of the pins. -/
def Obligations.ResetMeetsTheInvariant : Prop :=
  ∀ ins : List Pins, Inv { State.reset with inputs := ins } ∧ BusOrdered { State.reset with inputs := ins }
    ∧ OneRequest { State.reset with inputs := ins }

/-- Every cycle keeps the invariant (R12, R21, R24, R28, R56, R77, R78), whatever the pins do. -/
def Obligations.EveryCycleKeepsTheInvariant : Prop :=
  ∀ s t : State, Inv s → step s = .next t → Inv t

/-- R40: every cycle keeps the order of the bus: each WRITE follows its own SELECT of the same address. -/
def Obligations.EveryWriteFollowsItsSelect : Prop :=
  ∀ s t : State, BusOrdered s → step s = .next t → BusOrdered t

/-- R40, R68: where the transport keeps T2 and no reset strands a request, at most one request is unanswered, and none
is presented while one is. -/
def Obligations.RequestsNeverOverlap : Prop :=
  ∀ s t : State, OneRequest s → KeepsT2 s → ResetHandsOver s → step s = .next t →
    OneRequest t ∧ (t.out.req.valid = true → s.outstanding = 0)

/-! ### Runs -/

/-- R81: with a transport that takes each request at once and answers it in the next cycle, a periodic iteration lasts
five ticks, issues one SELECT and one WRITE of the code, and records it in LAST_CODE. The lists of requests and of
frame bytes are the model's own (log entries 3 and 20). -/
def Obligations.PeriodicIterationLastsFiveTicks : Prop :=
  ∀ (s : State) (p0 p1 p2 p3 p4 : Pins) (rest : List Pins),
    s.inputs = p0 :: p1 :: p2 :: p3 :: p4 :: rest →
    QuietHost p0 → TakesRequest p1 → AnswersOk p2 → TakesRequest p3 → AnswersOk p4 →
    s.fsm = .pSample → (s.mode = 1 ∨ s.mode = 2) →
    (s.repeatN.toNat = 0 ∨ phasePeriods s.elapsed s.ftw < s.repeatN.toNat) →
    ∃ t c, Host.Core.run core 5 s = .next t
      ∧ c = quantize s.par.fullScaleUv (s.periodicV s.mode)
      ∧ t.fsm = .pSample ∧ t.now = s.now + 5 ∧ t.t0 = s.t0
      ∧ t.cyc = BitVec.ofNat 64 (phasePeriods s.elapsed s.ftw)
      ∧ t.code = c ∧ t.lastCode = c
      ∧ t.requests = s.requests ++ [selectWord s.busAddr, writeWord s.busAddr c]
      ∧ t.wire = s.wire ++ [frameByte0 c, frameByte1 c]
      ∧ t.inputs = rest ∧ SameConfig s t

/-- R76, R81: an entry is held for its whole period: while the period has not passed, S_HOLD stays, with no request and
no change of the entry, for as many cycles as are left. The pins of the coming cycles are those the model's own list
holds, and idle past it (log entry 1). -/
def Obligations.StepEntryIsHeldForItsPeriod : Prop :=
  ∀ (n : Nat) (s : State), s.fsm = .sHold → s.mode = 0 →
    (∀ k, k < n → QuietHost ((s.inputs.drop k).headD Pins.idle)) →
    s.held.toNat + n < 2 ^ 64 → (s.held.toNat + n) * s.ftw.toNat < 2 ^ 32 + s.ftw.toNat →
    ∃ t, Host.Core.run core n s = .next t
      ∧ t.fsm = .sHold ∧ t.now = s.now + BitVec.ofNat 64 n ∧ t.es = s.es ∧ t.idx = s.idx ∧ t.cyc = s.cyc
      ∧ t.requests = s.requests ∧ t.lastCode = s.lastCode ∧ SameConfig s t ∧ t.inputs = s.inputs.drop n

/-- R69, R80 item 5, R88: in STOPPED, after an error or a success, no request is ever issued and nothing of the run's
outcome changes, however long and whatever else is presented, until a START is. -/
def Obligations.StoppedStaysQuietUntilAStart : Prop :=
  ∀ (n : Nat) (s : State), s.fsm = .stopped →
    (∀ p ∈ s.inputs, p.rst = false
      ∧ ¬(p.hpValid = true ∧ p.hpWe = true ∧ p.hpAddr = 0x001 ∧ p.hpWdata.toNat % 256 = 1)) →
    ∃ t, Host.Core.run core n s = .next t
      ∧ t.fsm = .stopped ∧ t.requests = s.requests ∧ t.wire = s.wire ∧ t.done = s.done ∧ t.err = s.err
      ∧ t.errCount = s.errCount ∧ t.cyc = s.cyc ∧ t.idx = s.idx ∧ t.lastCode = s.lastCode ∧ t.code = s.code
      ∧ t.now = s.now + BitVec.ofNat 64 n

/-- R80 item 2, X6: a step run of L ≥ 2 written entries with REPEAT = N > 0 and every write succeeding, without a reset
and with a transport that serves every request, at once or after any wait, ends after N passes, whatever the host
does: it hands over the frames of all L entries in order, N times, and stops with DONE and CYC = N. The frames are
those of the model's own list `wire` (log entry 20), and the pins those of its own list `inputs` (log entry 1). -/
def Obligations.StepRunWritesEveryEntryOnceAPass : Prop :=
  ∀ (s : State) (codes : List Code), ServesTheRun s →
    s.fsm = .sEntry → s.mode = 0 → s.idx = 0 → s.cyc = 0 → s.ftw ≠ 0 → 0 < s.repeatN.toNat →
    2 ≤ s.stepLen.toNat → s.stepLen.toNat ≤ 256 → codes.length = s.stepLen.toNat →
    (∀ i, i < codes.length →
      ∃ w, s.table.read i = some w ∧ codes[i]? = some (quantize s.par.fullScaleUv w.toInt)) →
    ∃ n t, Host.Core.run core n s = .next t
      ∧ t.fsm = .stopped ∧ t.done = true ∧ t.err = .none ∧ t.cyc.toNat = s.repeatN.toNat
      ∧ t.wire = s.wire ++ (List.replicate s.repeatN.toNat codes).flatten.flatMap
          (fun c => [frameByte0 c, frameByte1 c])

/-! ### Placing a word -/

/-- A table word placed by withFetchWord is what the next step runs; for the reserved mode, by the START that refuses it
(log entry 10). -/
def Obligations.PlacedWordIsRunNext : Prop :=
  ∀ (s : State) (nbits w : Nat) (i : Instr), decodeTableWord nbits w = some i →
    (s.withFetchWord nbits w).pins.rst = false
    ∧ (i ≠ .modeReserved → i ∈ (s.withFetchWord nbits w).cycleOps)
    ∧ (i = .modeReserved → (s.withFetchWord nbits w).cycleOps = [.start 0]
        ∧ exec (.start 0) (s.withFetchWord nbits w).beginCycle = exec i (s.withFetchWord nbits w).beginCycle)
end

