-- ==== Sys2Proof/Laws/Encoding.lean ====
section
/-! SUPPORT. The numbers that the encoder's words are, and their fields read back. -/

namespace Sys2Proof

theorem append_toNat {m n : Nat} (x : BitVec m) (y : BitVec n) :
    (x ++ y).toNat = x.toNat * 2 ^ n + y.toNat := by
  rw [BitVec.toNat_append, Nat.shiftLeft_eq, Nat.mul_comm, ← Nat.two_pow_add_eq_or_of_lt y.isLt]

theorem hostOpWord_toNat (we : Bool) (a : BitVec 10) (d : Word) :
    (hostOpWord we a d).toNat = we.toNat * 2 ^ 42 + a.toNat * 2 ^ 32 + d.toNat := by
  have h : (hostOpWord we a d).toNat = (BitVec.ofBool we ++ a).toNat * 2 ^ 32 + d.toNat := append_toNat _ _
  rw [h, append_toNat, BitVec.toNat_ofBool]
  omega

theorem commandWord_toNat (u : BitVec 24) (o : Byte) : (commandWord u o).toNat = u.toNat * 2 ^ 8 + o.toNat :=
  append_toNat u o

theorem frame16_toNat (c : Code) : (frame16 c).toNat = c.toNat := by
  have h : (frame16 c).toNat = (0 : BitVec 4).toNat * 2 ^ 12 + c.toNat := append_toNat _ _
  simpa using h

theorem tpReqWord_toNat (op : Bool) (a : BusAddr) (d : BitVec 16) :
    (tpReqWord op a d).toNat = op.toNat * 2 ^ 23 + a.toNat * 2 ^ 16 + d.toNat := by
  have h : (tpReqWord op a d).toNat = (BitVec.ofBool op ++ a).toNat * 2 ^ 16 + d.toNat := append_toNat _ _
  rw [h, append_toNat, BitVec.toNat_ofBool]
  omega

theorem field_toNat {w : Nat} (x : BitVec w) (lo len : Nat) :
    (x.extractLsb' lo len).toNat = x.toNat / 2 ^ lo % 2 ^ len := by
  rw [BitVec.extractLsb'_toNat, Nat.shiftRight_eq_div_pow]

theorem topBit_of_toNat {w : Nat} (x : BitVec w) (i : Nat) (b : Bool) (h : x.toNat / 2 ^ i % 2 = b.toNat) :
    x.getLsbD i = b := by
  rw [BitVec.getLsbD, Nat.testBit_eq_decide_div_mod_eq, h]
  cases b <;> rfl

theorem hostOpWord_we (we : Bool) (a : BitVec 10) (d : Word) : (hostOpWord we a d).getLsbD 42 = we := by
  apply topBit_of_toNat
  rw [hostOpWord_toNat]
  have := a.isLt; have := d.isLt
  cases we <;> simp <;> omega

@[simp] theorem hostOpWord_waddr (we : Bool) (a : BitVec 10) (d : Word) :
    (hostOpWord we a d).extractLsb' 32 10 = a := by
  apply BitVec.eq_of_toNat_eq
  rw [field_toNat, hostOpWord_toNat]
  have := a.isLt; have := d.isLt
  cases we <;> simp <;> omega

@[simp] theorem hostOpWord_data (we : Bool) (a : BitVec 10) (d : Word) :
    (hostOpWord we a d).extractLsb' 0 32 = d := by
  apply BitVec.eq_of_toNat_eq
  rw [field_toNat, hostOpWord_toNat]
  have := a.isLt; have := d.isLt
  cases we <;> simp <;> omega

@[simp] theorem commandWord_opc (u : BitVec 24) (o : Byte) : (commandWord u o).extractLsb' 0 8 = o := by
  apply BitVec.eq_of_toNat_eq
  rw [field_toNat, commandWord_toNat]
  have := o.isLt
  omega

@[simp] theorem commandWord_upper (u : BitVec 24) (o : Byte) : (commandWord u o).extractLsb' 8 24 = u := by
  apply BitVec.eq_of_toNat_eq
  rw [field_toNat, commandWord_toNat]
  have := o.isLt; have := u.isLt
  omega

theorem tpReqWord_op (op : Bool) (a : BusAddr) (d : BitVec 16) : (tpReqWord op a d).getLsbD 23 = op := by
  apply topBit_of_toNat
  rw [tpReqWord_toNat]
  have := a.isLt; have := d.isLt
  cases op <;> simp <;> omega

@[simp] theorem tpReqWord_addr (op : Bool) (a : BusAddr) (d : BitVec 16) :
    (tpReqWord op a d).extractLsb' 16 7 = a := by
  apply BitVec.eq_of_toNat_eq
  rw [field_toNat, tpReqWord_toNat]
  have := a.isLt; have := d.isLt
  cases op <;> simp <;> omega

@[simp] theorem frame16_upper (c : Code) : (frame16 c).extractLsb' 12 4 = 0 := by
  apply BitVec.eq_of_toNat_eq
  rw [field_toNat, frame16_toNat]
  have := c.isLt
  simp; omega

@[simp] theorem frame16_code (c : Code) : (frame16 c).extractLsb' 0 12 = c := by
  apply BitVec.eq_of_toNat_eq
  rw [field_toNat, frame16_toNat]
  have := c.isLt
  omega

/-- The frame is the code, zero-extended (R48). -/
theorem frame16_eq_setWidth (c : Code) : frame16 c = c.setWidth 16 := by
  apply BitVec.eq_of_toNat_eq
  have := c.isLt
  rw [frame16_toNat, BitVec.toNat_setWidth, Nat.mod_eq_of_lt (by omega)]

/-! ### The rows a HOSTOP decodes to (R42, R43) -/

theorem decodeCommand_start {w : Word} (h : w.extractLsb' 0 8 = startOpcode) :
    decodeCommand w = .start (w.extractLsb' 8 24) := if_pos h

theorem decodeCommand_nop {w : Word} (h : w.extractLsb' 0 8 ≠ startOpcode) :
    decodeCommand w = .nop (w.extractLsb' 8 24) (w.extractLsb' 0 8) := if_neg h

theorem decodeHostOp_command (w : Word) : decodeHostOp (hostOpWord true cmdSlot w) = decodeCommand w := by
  unfold decodeHostOp
  rw [hostOpWord_we, hostOpWord_waddr, hostOpWord_data, if_pos rfl, if_pos rfl]

theorem decodeHostOp_wr {a : BitVec 10} (w : Word) (h : a ≠ cmdSlot) :
    decodeHostOp (hostOpWord true a w) = .wr a w := by
  unfold decodeHostOp
  rw [hostOpWord_we, hostOpWord_waddr, hostOpWord_data, if_pos rfl, if_neg h]

theorem decodeHostOp_rd (a : BitVec 10) (w : Word) : decodeHostOp (hostOpWord false a w) = .rd a w := by
  unfold decodeHostOp
  rw [hostOpWord_we, hostOpWord_waddr, hostOpWord_data, if_neg Bool.false_ne_true]

end Sys2Proof
end

