-- ==== Sys2Proof/Laws/Memory.lean ====
section
/-! SUPPORT. The laws of the step table: what a write leaves to be read, and that it keeps the canonical form. -/

namespace Sys2Proof.Machine

@[simp] theorem Memory.read_nil (i : Nat) : Memory.read [] i = none := rfl

@[simp] theorem Memory.read_cons (j : Nat) (w : Word) (m : Memory) (i : Nat) :
    Memory.read ((j, w) :: m) i = if j = i then some w else Memory.read m i := rfl

/-- The word written is the word read. -/
theorem Memory.read_write_same (m : Memory) (i : Nat) (w : Word) : (m.write i w).read i = some w := by
  induction m with
  | nil => simp [Memory.write]
  | cons e m ih =>
    obtain ⟨j, x⟩ := e
    unfold Memory.write
    split
    · simp
    · split
      · simp
      · next h => rw [Memory.read_cons, if_neg (Ne.symm h), ih]

/-- A write leaves every other entry as it was. -/
theorem Memory.read_write_other (m : Memory) (i j : Nat) (w : Word) (h : j ≠ i) : (m.write i w).read j = m.read j := by
  induction m with
  | nil => simp [Memory.write, h.symm]
  | cons e m ih =>
    obtain ⟨k, x⟩ := e
    unfold Memory.write
    split
    · simp [h.symm]
    · split
      · next hk => subst hk; simp [h.symm]
      · simp [ih]

/-- A sorted table with a lower entry in front is sorted. -/
theorem Memory.wf_cons {m : Memory} {j : Nat} {w : Word} (hm : m.wf = true) (h : ∀ i x, (i, x) ∈ m → j < i) :
    Memory.wf ((j, w) :: m) = true := by
  cases m with
  | nil => rfl
  | cons e m =>
    obtain ⟨i, x⟩ := e
    simp only [Memory.wf, Bool.and_eq_true, decide_eq_true_eq]
    exact ⟨h i x (by simp), hm⟩

/-- The front entry of a sorted table is its least, and the rest is sorted. -/
theorem Memory.wf_tail {m : Memory} {j : Nat} {w : Word} (h : Memory.wf ((j, w) :: m) = true) :
    m.wf = true ∧ ∀ i x, (i, x) ∈ m → j < i := by
  induction m generalizing j w with
  | nil => simp [Memory.wf]
  | cons e m ih =>
    obtain ⟨k, y⟩ := e
    simp only [Memory.wf, Bool.and_eq_true, decide_eq_true_eq] at h
    obtain ⟨hjk, hm⟩ := h
    refine ⟨hm, fun i x hi => ?_⟩
    rcases List.mem_cons.mp hi with heq | hi
    · injection heq with h1; omega
    · exact lt_trans hjk ((ih hm).2 i x hi)

/-- What a table holds after a write. -/
theorem Memory.mem_write {m : Memory} {i j : Nat} {w x : Word} (h : (j, x) ∈ m.write i w) :
    j = i ∧ x = w ∨ (j, x) ∈ m := by
  induction m with
  | nil => simp only [Memory.write, List.mem_singleton, Prod.mk.injEq] at h; exact .inl h
  | cons e m ih =>
    obtain ⟨k, y⟩ := e
    unfold Memory.write at h
    split at h
    · rcases List.mem_cons.mp h with h | h
      · injection h with h1 h2; exact .inl ⟨h1, h2⟩
      · exact .inr h
    · split at h
      · rcases List.mem_cons.mp h with h | h
        · injection h with h1 h2; exact .inl ⟨h1, h2⟩
        · exact .inr (List.mem_cons_of_mem _ h)
      · rcases List.mem_cons.mp h with h | h
        · exact .inr (h ▸ List.mem_cons_self)
        · exact (ih h).imp_right (List.mem_cons_of_mem _)

/-- A write keeps the canonical form. -/
theorem Memory.wf_write (m : Memory) (i : Nat) (w : Word) (h : m.wf = true) : (m.write i w).wf = true := by
  induction m with
  | nil => rfl
  | cons e m ih =>
    obtain ⟨k, y⟩ := e
    obtain ⟨hm, hk⟩ := Memory.wf_tail h
    unfold Memory.write
    split
    · next hik =>
      refine Memory.wf_cons h fun j x hj => ?_
      rcases List.mem_cons.mp hj with heq | hj
      · injection heq with h1; omega
      · exact lt_trans hik (hk j x hj)
    · split
      · next hik => subst hik; exact Memory.wf_cons hm hk
      · next h1 h2 =>
        refine Memory.wf_cons (ih hm) fun j x hj => ?_
        rcases Memory.mem_write hj with ⟨rfl, -⟩ | hj
        · omega
        · exact hk j x hj

/-- The table at reset is in the canonical form. -/
theorem Memory.wf_reset : State.reset.table.wf = true := rfl

end Sys2Proof.Machine
end

