-- ==== Sys2Proof/Laws/State.lean ====
section
/-! SUPPORT. For each named update of the state, what each field is after it: one lemma a field, true by rfl. -/

namespace Sys2Proof.Machine

variable (s : State)

/-! ### `reject(err)` of R57 -/

@[simp] theorem State.reject_par (e : ErrKind) : (s.reject e).par = s.par := rfl
@[simp] theorem State.reject_ctrl (e : ErrKind) : (s.reject e).ctrl = s.ctrl := rfl
@[simp] theorem State.reject_lo (e : ErrKind) : (s.reject e).lo = s.lo := rfl
@[simp] theorem State.reject_hi (e : ErrKind) : (s.reject e).hi = s.hi := rfl
@[simp] theorem State.reject_ftw (e : ErrKind) : (s.reject e).ftw = s.ftw := rfl
@[simp] theorem State.reject_repeatN (e : ErrKind) : (s.reject e).repeatN = s.repeatN := rfl
@[simp] theorem State.reject_stepLen (e : ErrKind) : (s.reject e).stepLen = s.stepLen := rfl
@[simp] theorem State.reject_table (e : ErrKind) : (s.reject e).table = s.table := rfl
@[simp] theorem State.reject_done (e : ErrKind) : (s.reject e).done = false := rfl
@[simp] theorem State.reject_err (e : ErrKind) : (s.reject e).err = e := rfl
@[simp] theorem State.reject_errCount (e : ErrKind) : (s.reject e).errCount = 0 := rfl
@[simp] theorem State.reject_cyc (e : ErrKind) : (s.reject e).cyc = s.cyc := rfl
@[simp] theorem State.reject_lastCode (e : ErrKind) : (s.reject e).lastCode = s.lastCode := rfl
@[simp] theorem State.reject_idx (e : ErrKind) : (s.reject e).idx = s.idx := rfl
@[simp] theorem State.reject_fsm (e : ErrKind) : (s.reject e).fsm = s.fsm := rfl
@[simp] theorem State.reject_now (e : ErrKind) : (s.reject e).now = s.now := rfl
@[simp] theorem State.reject_t0 (e : ErrKind) : (s.reject e).t0 = s.t0 := rfl
@[simp] theorem State.reject_es (e : ErrKind) : (s.reject e).es = s.es := rfl
@[simp] theorem State.reject_code (e : ErrKind) : (s.reject e).code = s.code := rfl
@[simp] theorem State.reject_inputs (e : ErrKind) : (s.reject e).inputs = s.inputs := rfl
@[simp] theorem State.reject_out (e : ErrKind) : (s.reject e).out = s.out := rfl
@[simp] theorem State.reject_outstanding (e : ErrKind) : (s.reject e).outstanding = s.outstanding := rfl
@[simp] theorem State.reject_requests (e : ErrKind) : (s.reject e).requests = s.requests := rfl
@[simp] theorem State.reject_wire (e : ErrKind) : (s.reject e).wire = s.wire := rfl
@[simp] theorem State.reject_draws (e : ErrKind) : (s.reject e).draws = s.draws := rfl

/-! ### `Stop(err, count)` of R78 -/

@[simp] theorem State.stop_par (e : ErrKind) (n : BitVec 2) : (s.stop e n).par = s.par := rfl
@[simp] theorem State.stop_ctrl (e : ErrKind) (n : BitVec 2) : (s.stop e n).ctrl = s.ctrl := rfl
@[simp] theorem State.stop_lo (e : ErrKind) (n : BitVec 2) : (s.stop e n).lo = s.lo := rfl
@[simp] theorem State.stop_hi (e : ErrKind) (n : BitVec 2) : (s.stop e n).hi = s.hi := rfl
@[simp] theorem State.stop_ftw (e : ErrKind) (n : BitVec 2) : (s.stop e n).ftw = s.ftw := rfl
@[simp] theorem State.stop_repeatN (e : ErrKind) (n : BitVec 2) : (s.stop e n).repeatN = s.repeatN := rfl
@[simp] theorem State.stop_stepLen (e : ErrKind) (n : BitVec 2) : (s.stop e n).stepLen = s.stepLen := rfl
@[simp] theorem State.stop_table (e : ErrKind) (n : BitVec 2) : (s.stop e n).table = s.table := rfl
@[simp] theorem State.stop_done (e : ErrKind) (n : BitVec 2) : (s.stop e n).done = (e == .none) := rfl
@[simp] theorem State.stop_err (e : ErrKind) (n : BitVec 2) : (s.stop e n).err = e := rfl
@[simp] theorem State.stop_errCount (e : ErrKind) (n : BitVec 2) : (s.stop e n).errCount = n := rfl
@[simp] theorem State.stop_cyc (e : ErrKind) (n : BitVec 2) : (s.stop e n).cyc = s.cyc := rfl
@[simp] theorem State.stop_lastCode (e : ErrKind) (n : BitVec 2) : (s.stop e n).lastCode = s.lastCode := rfl
@[simp] theorem State.stop_idx (e : ErrKind) (n : BitVec 2) : (s.stop e n).idx = s.idx := rfl
@[simp] theorem State.stop_fsm (e : ErrKind) (n : BitVec 2) : (s.stop e n).fsm = .stopped := rfl
@[simp] theorem State.stop_now (e : ErrKind) (n : BitVec 2) : (s.stop e n).now = s.now := rfl
@[simp] theorem State.stop_t0 (e : ErrKind) (n : BitVec 2) : (s.stop e n).t0 = s.t0 := rfl
@[simp] theorem State.stop_es (e : ErrKind) (n : BitVec 2) : (s.stop e n).es = s.es := rfl
@[simp] theorem State.stop_code (e : ErrKind) (n : BitVec 2) : (s.stop e n).code = s.code := rfl
@[simp] theorem State.stop_inputs (e : ErrKind) (n : BitVec 2) : (s.stop e n).inputs = s.inputs := rfl
@[simp] theorem State.stop_out (e : ErrKind) (n : BitVec 2) : (s.stop e n).out = s.out := rfl
@[simp] theorem State.stop_outstanding (e : ErrKind) (n : BitVec 2) : (s.stop e n).outstanding = s.outstanding := rfl
@[simp] theorem State.stop_requests (e : ErrKind) (n : BitVec 2) : (s.stop e n).requests = s.requests := rfl
@[simp] theorem State.stop_wire (e : ErrKind) (n : BitVec 2) : (s.stop e n).wire = s.wire := rfl
@[simp] theorem State.stop_draws (e : ErrKind) (n : BitVec 2) : (s.stop e n).draws = s.draws := rfl

/-! ### an accepted START (R56) -/

@[simp] theorem State.accept_par (m : BitVec 2) : (s.accept m).par = s.par := rfl
@[simp] theorem State.accept_ctrl (m : BitVec 2) : (s.accept m).ctrl = s.ctrl := rfl
@[simp] theorem State.accept_lo (m : BitVec 2) : (s.accept m).lo = s.lo := rfl
@[simp] theorem State.accept_hi (m : BitVec 2) : (s.accept m).hi = s.hi := rfl
@[simp] theorem State.accept_ftw (m : BitVec 2) : (s.accept m).ftw = s.ftw := rfl
@[simp] theorem State.accept_repeatN (m : BitVec 2) : (s.accept m).repeatN = s.repeatN := rfl
@[simp] theorem State.accept_stepLen (m : BitVec 2) : (s.accept m).stepLen = s.stepLen := rfl
@[simp] theorem State.accept_table (m : BitVec 2) : (s.accept m).table = s.table := rfl
@[simp] theorem State.accept_done (m : BitVec 2) : (s.accept m).done = false := rfl
@[simp] theorem State.accept_err (m : BitVec 2) : (s.accept m).err = .none := rfl
@[simp] theorem State.accept_errCount (m : BitVec 2) : (s.accept m).errCount = 0 := rfl
@[simp] theorem State.accept_cyc (m : BitVec 2) : (s.accept m).cyc = 0 := rfl
@[simp] theorem State.accept_lastCode (m : BitVec 2) : (s.accept m).lastCode = s.lastCode := rfl
@[simp] theorem State.accept_idx (m : BitVec 2) : (s.accept m).idx = 0 := rfl
@[simp] theorem State.accept_fsm (m : BitVec 2) : (s.accept m).fsm = (if m = 0 then .sEntry else .pSample) := rfl
@[simp] theorem State.accept_now (m : BitVec 2) : (s.accept m).now = s.now := rfl
@[simp] theorem State.accept_t0 (m : BitVec 2) : (s.accept m).t0 = s.now + 1 := rfl
@[simp] theorem State.accept_es (m : BitVec 2) : (s.accept m).es = s.es := rfl
@[simp] theorem State.accept_code (m : BitVec 2) : (s.accept m).code = s.code := rfl
@[simp] theorem State.accept_inputs (m : BitVec 2) : (s.accept m).inputs = s.inputs := rfl
@[simp] theorem State.accept_out (m : BitVec 2) : (s.accept m).out = s.out := rfl
@[simp] theorem State.accept_outstanding (m : BitVec 2) : (s.accept m).outstanding = s.outstanding := rfl
@[simp] theorem State.accept_requests (m : BitVec 2) : (s.accept m).requests = s.requests := rfl
@[simp] theorem State.accept_wire (m : BitVec 2) : (s.accept m).wire = s.wire := rfl
@[simp] theorem State.accept_draws (m : BitVec 2) : (s.accept m).draws = s.draws := rfl

/-! ### `Diag(v)` of R79 -/

@[simp] theorem State.diag_par (v : Int) : (s.diag v).par = s.par := rfl
@[simp] theorem State.diag_ctrl (v : Int) : (s.diag v).ctrl = s.ctrl := rfl
@[simp] theorem State.diag_lo (v : Int) : (s.diag v).lo = s.lo := rfl
@[simp] theorem State.diag_hi (v : Int) : (s.diag v).hi = s.hi := rfl
@[simp] theorem State.diag_ftw (v : Int) : (s.diag v).ftw = s.ftw := rfl
@[simp] theorem State.diag_repeatN (v : Int) : (s.diag v).repeatN = s.repeatN := rfl
@[simp] theorem State.diag_stepLen (v : Int) : (s.diag v).stepLen = s.stepLen := rfl
@[simp] theorem State.diag_table (v : Int) : (s.diag v).table = s.table := rfl
@[simp] theorem State.diag_done (v : Int) : (s.diag v).done = s.done := rfl
@[simp] theorem State.diag_err (v : Int) : (s.diag v).err = s.err := rfl
@[simp] theorem State.diag_errCount (v : Int) : (s.diag v).errCount = s.errCount := rfl
@[simp] theorem State.diag_cyc (v : Int) : (s.diag v).cyc = s.cyc := rfl
@[simp] theorem State.diag_lastCode (v : Int) : (s.diag v).lastCode = s.lastCode := rfl
@[simp] theorem State.diag_idx (v : Int) : (s.diag v).idx = s.idx := rfl
@[simp] theorem State.diag_fsm (v : Int) : (s.diag v).fsm = s.fsm := rfl
@[simp] theorem State.diag_now (v : Int) : (s.diag v).now = s.now := rfl
@[simp] theorem State.diag_t0 (v : Int) : (s.diag v).t0 = s.t0 := rfl
@[simp] theorem State.diag_es (v : Int) : (s.diag v).es = s.es := rfl
@[simp] theorem State.diag_code (v : Int) : (s.diag v).code = s.code := rfl
@[simp] theorem State.diag_inputs (v : Int) : (s.diag v).inputs = s.inputs := rfl
@[simp] theorem State.diag_out (v : Int) :
    (s.diag v).out =
      { s.out with dbgValid := s.verbose, dbgVolt := if s.verbose then BitVec.ofInt 32 v else 0 } := rfl
@[simp] theorem State.diag_outstanding (v : Int) : (s.diag v).outstanding = s.outstanding := rfl
@[simp] theorem State.diag_requests (v : Int) : (s.diag v).requests = s.requests := rfl
@[simp] theorem State.diag_wire (v : Int) : (s.diag v).wire = s.wire := rfl
@[simp] theorem State.diag_draws (v : Int) : (s.diag v).draws = s.draws := rfl

/-! ### the issue of a sample (R70, R71, R76) -/

@[simp] theorem State.issue_par (v : Int) : (s.issue v).par = s.par := rfl
@[simp] theorem State.issue_ctrl (v : Int) : (s.issue v).ctrl = s.ctrl := rfl
@[simp] theorem State.issue_lo (v : Int) : (s.issue v).lo = s.lo := rfl
@[simp] theorem State.issue_hi (v : Int) : (s.issue v).hi = s.hi := rfl
@[simp] theorem State.issue_ftw (v : Int) : (s.issue v).ftw = s.ftw := rfl
@[simp] theorem State.issue_repeatN (v : Int) : (s.issue v).repeatN = s.repeatN := rfl
@[simp] theorem State.issue_stepLen (v : Int) : (s.issue v).stepLen = s.stepLen := rfl
@[simp] theorem State.issue_table (v : Int) : (s.issue v).table = s.table := rfl
@[simp] theorem State.issue_done (v : Int) : (s.issue v).done = s.done := rfl
@[simp] theorem State.issue_err (v : Int) : (s.issue v).err = s.err := rfl
@[simp] theorem State.issue_errCount (v : Int) : (s.issue v).errCount = s.errCount := rfl
@[simp] theorem State.issue_cyc (v : Int) : (s.issue v).cyc = s.cyc := rfl
@[simp] theorem State.issue_lastCode (v : Int) : (s.issue v).lastCode = s.lastCode := rfl
@[simp] theorem State.issue_idx (v : Int) : (s.issue v).idx = s.idx := rfl
@[simp] theorem State.issue_fsm (v : Int) : (s.issue v).fsm = .selReq := rfl
@[simp] theorem State.issue_now (v : Int) : (s.issue v).now = s.now := rfl
@[simp] theorem State.issue_t0 (v : Int) : (s.issue v).t0 = s.t0 := rfl
@[simp] theorem State.issue_es (v : Int) : (s.issue v).es = s.es := rfl
@[simp] theorem State.issue_code (v : Int) : (s.issue v).code = quantize s.par.fullScaleUv v := rfl
@[simp] theorem State.issue_inputs (v : Int) : (s.issue v).inputs = s.inputs := rfl
@[simp] theorem State.issue_out (v : Int) : (s.issue v).out = (s.diag v).out := rfl
@[simp] theorem State.issue_outstanding (v : Int) : (s.issue v).outstanding = s.outstanding := rfl
@[simp] theorem State.issue_requests (v : Int) : (s.issue v).requests = s.requests := rfl
@[simp] theorem State.issue_wire (v : Int) : (s.issue v).wire = s.wire := rfl
@[simp] theorem State.issue_draws (v : Int) : (s.issue v).draws = s.draws := rfl

/-! ### CYC <- n (R70) -/

@[simp] theorem State.countPeriods_par : (s.countPeriods).par = s.par := rfl
@[simp] theorem State.countPeriods_ctrl : (s.countPeriods).ctrl = s.ctrl := rfl
@[simp] theorem State.countPeriods_lo : (s.countPeriods).lo = s.lo := rfl
@[simp] theorem State.countPeriods_hi : (s.countPeriods).hi = s.hi := rfl
@[simp] theorem State.countPeriods_ftw : (s.countPeriods).ftw = s.ftw := rfl
@[simp] theorem State.countPeriods_repeatN : (s.countPeriods).repeatN = s.repeatN := rfl
@[simp] theorem State.countPeriods_stepLen : (s.countPeriods).stepLen = s.stepLen := rfl
@[simp] theorem State.countPeriods_table : (s.countPeriods).table = s.table := rfl
@[simp] theorem State.countPeriods_done : (s.countPeriods).done = s.done := rfl
@[simp] theorem State.countPeriods_err : (s.countPeriods).err = s.err := rfl
@[simp] theorem State.countPeriods_errCount : (s.countPeriods).errCount = s.errCount := rfl
@[simp] theorem State.countPeriods_cyc : (s.countPeriods).cyc = BitVec.ofNat 64 (phasePeriods s.elapsed s.ftw) := rfl
@[simp] theorem State.countPeriods_lastCode : (s.countPeriods).lastCode = s.lastCode := rfl
@[simp] theorem State.countPeriods_idx : (s.countPeriods).idx = s.idx := rfl
@[simp] theorem State.countPeriods_fsm : (s.countPeriods).fsm = s.fsm := rfl
@[simp] theorem State.countPeriods_now : (s.countPeriods).now = s.now := rfl
@[simp] theorem State.countPeriods_t0 : (s.countPeriods).t0 = s.t0 := rfl
@[simp] theorem State.countPeriods_es : (s.countPeriods).es = s.es := rfl
@[simp] theorem State.countPeriods_code : (s.countPeriods).code = s.code := rfl
@[simp] theorem State.countPeriods_inputs : (s.countPeriods).inputs = s.inputs := rfl
@[simp] theorem State.countPeriods_out : (s.countPeriods).out = s.out := rfl
@[simp] theorem State.countPeriods_outstanding : (s.countPeriods).outstanding = s.outstanding := rfl
@[simp] theorem State.countPeriods_requests : (s.countPeriods).requests = s.requests := rfl
@[simp] theorem State.countPeriods_wire : (s.countPeriods).wire = s.wire := rfl
@[simp] theorem State.countPeriods_draws : (s.countPeriods).draws = s.draws := rfl

/-! ### CYC <- CYC + 1 (R76) -/

@[simp] theorem State.countPass_par : (s.countPass).par = s.par := rfl
@[simp] theorem State.countPass_ctrl : (s.countPass).ctrl = s.ctrl := rfl
@[simp] theorem State.countPass_lo : (s.countPass).lo = s.lo := rfl
@[simp] theorem State.countPass_hi : (s.countPass).hi = s.hi := rfl
@[simp] theorem State.countPass_ftw : (s.countPass).ftw = s.ftw := rfl
@[simp] theorem State.countPass_repeatN : (s.countPass).repeatN = s.repeatN := rfl
@[simp] theorem State.countPass_stepLen : (s.countPass).stepLen = s.stepLen := rfl
@[simp] theorem State.countPass_table : (s.countPass).table = s.table := rfl
@[simp] theorem State.countPass_done : (s.countPass).done = s.done := rfl
@[simp] theorem State.countPass_err : (s.countPass).err = s.err := rfl
@[simp] theorem State.countPass_errCount : (s.countPass).errCount = s.errCount := rfl
@[simp] theorem State.countPass_cyc : (s.countPass).cyc = s.cyc + 1 := rfl
@[simp] theorem State.countPass_lastCode : (s.countPass).lastCode = s.lastCode := rfl
@[simp] theorem State.countPass_idx : (s.countPass).idx = s.idx := rfl
@[simp] theorem State.countPass_fsm : (s.countPass).fsm = s.fsm := rfl
@[simp] theorem State.countPass_now : (s.countPass).now = s.now := rfl
@[simp] theorem State.countPass_t0 : (s.countPass).t0 = s.t0 := rfl
@[simp] theorem State.countPass_es : (s.countPass).es = s.es := rfl
@[simp] theorem State.countPass_code : (s.countPass).code = s.code := rfl
@[simp] theorem State.countPass_inputs : (s.countPass).inputs = s.inputs := rfl
@[simp] theorem State.countPass_out : (s.countPass).out = s.out := rfl
@[simp] theorem State.countPass_outstanding : (s.countPass).outstanding = s.outstanding := rfl
@[simp] theorem State.countPass_requests : (s.countPass).requests = s.requests := rfl
@[simp] theorem State.countPass_wire : (s.countPass).wire = s.wire := rfl
@[simp] theorem State.countPass_draws : (s.countPass).draws = s.draws := rfl

/-! ### driving the request pins (R68) -/

@[simp] theorem State.drive_par (op : Bool) (a : BusAddr) (d : BitVec 16) : (s.drive op a d).par = s.par := rfl
@[simp] theorem State.drive_ctrl (op : Bool) (a : BusAddr) (d : BitVec 16) : (s.drive op a d).ctrl = s.ctrl := rfl
@[simp] theorem State.drive_lo (op : Bool) (a : BusAddr) (d : BitVec 16) : (s.drive op a d).lo = s.lo := rfl
@[simp] theorem State.drive_hi (op : Bool) (a : BusAddr) (d : BitVec 16) : (s.drive op a d).hi = s.hi := rfl
@[simp] theorem State.drive_ftw (op : Bool) (a : BusAddr) (d : BitVec 16) : (s.drive op a d).ftw = s.ftw := rfl
@[simp] theorem State.drive_repeatN (op : Bool) (a : BusAddr) (d : BitVec 16) :
    (s.drive op a d).repeatN =
      s.repeatN := rfl
@[simp] theorem State.drive_stepLen (op : Bool) (a : BusAddr) (d : BitVec 16) :
    (s.drive op a d).stepLen =
      s.stepLen := rfl
@[simp] theorem State.drive_table (op : Bool) (a : BusAddr) (d : BitVec 16) : (s.drive op a d).table = s.table := rfl
@[simp] theorem State.drive_done (op : Bool) (a : BusAddr) (d : BitVec 16) : (s.drive op a d).done = s.done := rfl
@[simp] theorem State.drive_err (op : Bool) (a : BusAddr) (d : BitVec 16) : (s.drive op a d).err = s.err := rfl
@[simp] theorem State.drive_errCount (op : Bool) (a : BusAddr) (d : BitVec 16) :
    (s.drive op a d).errCount =
      s.errCount := rfl
@[simp] theorem State.drive_cyc (op : Bool) (a : BusAddr) (d : BitVec 16) : (s.drive op a d).cyc = s.cyc := rfl
@[simp] theorem State.drive_lastCode (op : Bool) (a : BusAddr) (d : BitVec 16) :
    (s.drive op a d).lastCode =
      s.lastCode := rfl
@[simp] theorem State.drive_idx (op : Bool) (a : BusAddr) (d : BitVec 16) : (s.drive op a d).idx = s.idx := rfl
@[simp] theorem State.drive_fsm (op : Bool) (a : BusAddr) (d : BitVec 16) : (s.drive op a d).fsm = s.fsm := rfl
@[simp] theorem State.drive_now (op : Bool) (a : BusAddr) (d : BitVec 16) : (s.drive op a d).now = s.now := rfl
@[simp] theorem State.drive_t0 (op : Bool) (a : BusAddr) (d : BitVec 16) : (s.drive op a d).t0 = s.t0 := rfl
@[simp] theorem State.drive_es (op : Bool) (a : BusAddr) (d : BitVec 16) : (s.drive op a d).es = s.es := rfl
@[simp] theorem State.drive_code (op : Bool) (a : BusAddr) (d : BitVec 16) : (s.drive op a d).code = s.code := rfl
@[simp] theorem State.drive_inputs (op : Bool) (a : BusAddr) (d : BitVec 16) :
    (s.drive op a d).inputs =
      s.inputs := rfl
@[simp] theorem State.drive_out (op : Bool) (a : BusAddr) (d : BitVec 16) :
    (s.drive op a d).out =
      { s.out with req := { valid := true, op := op, addr := a, data := d } } := rfl
@[simp] theorem State.drive_outstanding (op : Bool) (a : BusAddr) (d : BitVec 16) :
    (s.drive op a d).outstanding =
      s.outstanding := rfl
@[simp] theorem State.drive_requests (op : Bool) (a : BusAddr) (d : BitVec 16) :
    (s.drive op a d).requests =
      s.requests := rfl
@[simp] theorem State.drive_wire (op : Bool) (a : BusAddr) (d : BitVec 16) : (s.drive op a d).wire = s.wire := rfl
@[simp] theorem State.drive_draws (op : Bool) (a : BusAddr) (d : BitVec 16) : (s.drive op a d).draws = s.draws := rfl

/-! ### the transfer of a request (R68) -/

@[simp] theorem State.transfer_par (w : BitVec 24) (f : Fsm) : (s.transfer w f).par = s.par := rfl
@[simp] theorem State.transfer_ctrl (w : BitVec 24) (f : Fsm) : (s.transfer w f).ctrl = s.ctrl := rfl
@[simp] theorem State.transfer_lo (w : BitVec 24) (f : Fsm) : (s.transfer w f).lo = s.lo := rfl
@[simp] theorem State.transfer_hi (w : BitVec 24) (f : Fsm) : (s.transfer w f).hi = s.hi := rfl
@[simp] theorem State.transfer_ftw (w : BitVec 24) (f : Fsm) : (s.transfer w f).ftw = s.ftw := rfl
@[simp] theorem State.transfer_repeatN (w : BitVec 24) (f : Fsm) : (s.transfer w f).repeatN = s.repeatN := rfl
@[simp] theorem State.transfer_stepLen (w : BitVec 24) (f : Fsm) : (s.transfer w f).stepLen = s.stepLen := rfl
@[simp] theorem State.transfer_table (w : BitVec 24) (f : Fsm) : (s.transfer w f).table = s.table := rfl
@[simp] theorem State.transfer_done (w : BitVec 24) (f : Fsm) : (s.transfer w f).done = s.done := rfl
@[simp] theorem State.transfer_err (w : BitVec 24) (f : Fsm) : (s.transfer w f).err = s.err := rfl
@[simp] theorem State.transfer_errCount (w : BitVec 24) (f : Fsm) : (s.transfer w f).errCount = s.errCount := rfl
@[simp] theorem State.transfer_cyc (w : BitVec 24) (f : Fsm) : (s.transfer w f).cyc = s.cyc := rfl
@[simp] theorem State.transfer_lastCode (w : BitVec 24) (f : Fsm) : (s.transfer w f).lastCode = s.lastCode := rfl
@[simp] theorem State.transfer_idx (w : BitVec 24) (f : Fsm) : (s.transfer w f).idx = s.idx := rfl
@[simp] theorem State.transfer_fsm (w : BitVec 24) (f : Fsm) : (s.transfer w f).fsm = f := rfl
@[simp] theorem State.transfer_now (w : BitVec 24) (f : Fsm) : (s.transfer w f).now = s.now := rfl
@[simp] theorem State.transfer_t0 (w : BitVec 24) (f : Fsm) : (s.transfer w f).t0 = s.t0 := rfl
@[simp] theorem State.transfer_es (w : BitVec 24) (f : Fsm) : (s.transfer w f).es = s.es := rfl
@[simp] theorem State.transfer_code (w : BitVec 24) (f : Fsm) : (s.transfer w f).code = s.code := rfl
@[simp] theorem State.transfer_inputs (w : BitVec 24) (f : Fsm) : (s.transfer w f).inputs = s.inputs := rfl
@[simp] theorem State.transfer_out (w : BitVec 24) (f : Fsm) : (s.transfer w f).out = s.out := rfl
@[simp] theorem State.transfer_outstanding (w : BitVec 24) (f : Fsm) :
    (s.transfer w f).outstanding =
      s.outstanding + 1 := rfl
@[simp] theorem State.transfer_requests (w : BitVec 24) (f : Fsm) :
    (s.transfer w f).requests =
      s.requests ++ [w] := rfl
@[simp] theorem State.transfer_wire (w : BitVec 24) (f : Fsm) : (s.transfer w f).wire = s.wire := rfl
@[simp] theorem State.transfer_draws (w : BitVec 24) (f : Fsm) : (s.transfer w f).draws = s.draws := rfl

/-! ### handing a frame to the transport (R34) -/

@[simp] theorem State.handFrame_par (c : Code) : (s.handFrame c).par = s.par := rfl
@[simp] theorem State.handFrame_ctrl (c : Code) : (s.handFrame c).ctrl = s.ctrl := rfl
@[simp] theorem State.handFrame_lo (c : Code) : (s.handFrame c).lo = s.lo := rfl
@[simp] theorem State.handFrame_hi (c : Code) : (s.handFrame c).hi = s.hi := rfl
@[simp] theorem State.handFrame_ftw (c : Code) : (s.handFrame c).ftw = s.ftw := rfl
@[simp] theorem State.handFrame_repeatN (c : Code) : (s.handFrame c).repeatN = s.repeatN := rfl
@[simp] theorem State.handFrame_stepLen (c : Code) : (s.handFrame c).stepLen = s.stepLen := rfl
@[simp] theorem State.handFrame_table (c : Code) : (s.handFrame c).table = s.table := rfl
@[simp] theorem State.handFrame_done (c : Code) : (s.handFrame c).done = s.done := rfl
@[simp] theorem State.handFrame_err (c : Code) : (s.handFrame c).err = s.err := rfl
@[simp] theorem State.handFrame_errCount (c : Code) : (s.handFrame c).errCount = s.errCount := rfl
@[simp] theorem State.handFrame_cyc (c : Code) : (s.handFrame c).cyc = s.cyc := rfl
@[simp] theorem State.handFrame_lastCode (c : Code) : (s.handFrame c).lastCode = s.lastCode := rfl
@[simp] theorem State.handFrame_idx (c : Code) : (s.handFrame c).idx = s.idx := rfl
@[simp] theorem State.handFrame_fsm (c : Code) : (s.handFrame c).fsm = s.fsm := rfl
@[simp] theorem State.handFrame_now (c : Code) : (s.handFrame c).now = s.now := rfl
@[simp] theorem State.handFrame_t0 (c : Code) : (s.handFrame c).t0 = s.t0 := rfl
@[simp] theorem State.handFrame_es (c : Code) : (s.handFrame c).es = s.es := rfl
@[simp] theorem State.handFrame_code (c : Code) : (s.handFrame c).code = s.code := rfl
@[simp] theorem State.handFrame_inputs (c : Code) : (s.handFrame c).inputs = s.inputs := rfl
@[simp] theorem State.handFrame_out (c : Code) : (s.handFrame c).out = s.out := rfl
@[simp] theorem State.handFrame_outstanding (c : Code) : (s.handFrame c).outstanding = s.outstanding := rfl
@[simp] theorem State.handFrame_requests (c : Code) : (s.handFrame c).requests = s.requests := rfl
@[simp] theorem State.handFrame_wire (c : Code) : (s.handFrame c).wire = s.wire ++ [frameByte0 c, frameByte1 c] := rfl
@[simp] theorem State.handFrame_draws (c : Code) : (s.handFrame c).draws = s.draws := rfl

/-! ### the start of a cycle -/

@[simp] theorem State.beginCycle_par : (s.beginCycle).par = s.par := rfl
@[simp] theorem State.beginCycle_ctrl : (s.beginCycle).ctrl = s.ctrl := rfl
@[simp] theorem State.beginCycle_lo : (s.beginCycle).lo = s.lo := rfl
@[simp] theorem State.beginCycle_hi : (s.beginCycle).hi = s.hi := rfl
@[simp] theorem State.beginCycle_ftw : (s.beginCycle).ftw = s.ftw := rfl
@[simp] theorem State.beginCycle_repeatN : (s.beginCycle).repeatN = s.repeatN := rfl
@[simp] theorem State.beginCycle_stepLen : (s.beginCycle).stepLen = s.stepLen := rfl
@[simp] theorem State.beginCycle_table : (s.beginCycle).table = s.table := rfl
@[simp] theorem State.beginCycle_done : (s.beginCycle).done = s.done := rfl
@[simp] theorem State.beginCycle_err : (s.beginCycle).err = s.err := rfl
@[simp] theorem State.beginCycle_errCount : (s.beginCycle).errCount = s.errCount := rfl
@[simp] theorem State.beginCycle_cyc : (s.beginCycle).cyc = s.cyc := rfl
@[simp] theorem State.beginCycle_lastCode : (s.beginCycle).lastCode = s.lastCode := rfl
@[simp] theorem State.beginCycle_idx : (s.beginCycle).idx = s.idx := rfl
@[simp] theorem State.beginCycle_fsm : (s.beginCycle).fsm = s.fsm := rfl
@[simp] theorem State.beginCycle_now : (s.beginCycle).now = s.now := rfl
@[simp] theorem State.beginCycle_t0 : (s.beginCycle).t0 = s.t0 := rfl
@[simp] theorem State.beginCycle_es : (s.beginCycle).es = s.es := rfl
@[simp] theorem State.beginCycle_code : (s.beginCycle).code = s.code := rfl
@[simp] theorem State.beginCycle_inputs : (s.beginCycle).inputs = s.inputs := rfl
@[simp] theorem State.beginCycle_out : (s.beginCycle).out = Outputs.quiet := rfl
@[simp] theorem State.beginCycle_outstanding : (s.beginCycle).outstanding = s.answered := rfl
@[simp] theorem State.beginCycle_requests : (s.beginCycle).requests = s.requests := rfl
@[simp] theorem State.beginCycle_wire : (s.beginCycle).wire = s.wire := rfl
@[simp] theorem State.beginCycle_draws : (s.beginCycle).draws = s.draws := rfl

/-! ### the end of a cycle (R25) -/

@[simp] theorem State.endCycle_par : (s.endCycle).par = s.par := rfl
@[simp] theorem State.endCycle_ctrl : (s.endCycle).ctrl = s.ctrl := rfl
@[simp] theorem State.endCycle_lo : (s.endCycle).lo = s.lo := rfl
@[simp] theorem State.endCycle_hi : (s.endCycle).hi = s.hi := rfl
@[simp] theorem State.endCycle_ftw : (s.endCycle).ftw = s.ftw := rfl
@[simp] theorem State.endCycle_repeatN : (s.endCycle).repeatN = s.repeatN := rfl
@[simp] theorem State.endCycle_stepLen : (s.endCycle).stepLen = s.stepLen := rfl
@[simp] theorem State.endCycle_table : (s.endCycle).table = s.table := rfl
@[simp] theorem State.endCycle_done : (s.endCycle).done = s.done := rfl
@[simp] theorem State.endCycle_err : (s.endCycle).err = s.err := rfl
@[simp] theorem State.endCycle_errCount : (s.endCycle).errCount = s.errCount := rfl
@[simp] theorem State.endCycle_cyc : (s.endCycle).cyc = s.cyc := rfl
@[simp] theorem State.endCycle_lastCode : (s.endCycle).lastCode = s.lastCode := rfl
@[simp] theorem State.endCycle_idx : (s.endCycle).idx = s.idx := rfl
@[simp] theorem State.endCycle_fsm : (s.endCycle).fsm = s.fsm := rfl
@[simp] theorem State.endCycle_now : (s.endCycle).now = s.now + 1 := rfl
@[simp] theorem State.endCycle_t0 : (s.endCycle).t0 = s.t0 := rfl
@[simp] theorem State.endCycle_es : (s.endCycle).es = s.es := rfl
@[simp] theorem State.endCycle_code : (s.endCycle).code = s.code := rfl
@[simp] theorem State.endCycle_inputs : (s.endCycle).inputs = s.inputs.tail := rfl
@[simp] theorem State.endCycle_out : (s.endCycle).out = s.out := rfl
@[simp] theorem State.endCycle_outstanding : (s.endCycle).outstanding = s.outstanding := rfl
@[simp] theorem State.endCycle_requests : (s.endCycle).requests = s.requests := rfl
@[simp] theorem State.endCycle_wire : (s.endCycle).wire = s.wire := rfl
@[simp] theorem State.endCycle_draws : (s.endCycle).draws = s.draws := rfl

/-! ### the reset edge (R97, R98) -/

@[simp] theorem State.resetEdge_par : (s.resetEdge).par = s.par := rfl
@[simp] theorem State.resetEdge_ctrl : (s.resetEdge).ctrl = 0 := rfl
@[simp] theorem State.resetEdge_lo : (s.resetEdge).lo = 0 := rfl
@[simp] theorem State.resetEdge_hi : (s.resetEdge).hi = 0 := rfl
@[simp] theorem State.resetEdge_ftw : (s.resetEdge).ftw = 0 := rfl
@[simp] theorem State.resetEdge_repeatN : (s.resetEdge).repeatN = 0 := rfl
@[simp] theorem State.resetEdge_stepLen : (s.resetEdge).stepLen = 0 := rfl
@[simp] theorem State.resetEdge_table : (s.resetEdge).table = s.table := rfl
@[simp] theorem State.resetEdge_done : (s.resetEdge).done = false := rfl
@[simp] theorem State.resetEdge_err : (s.resetEdge).err = .none := rfl
@[simp] theorem State.resetEdge_errCount : (s.resetEdge).errCount = 0 := rfl
@[simp] theorem State.resetEdge_cyc : (s.resetEdge).cyc = 0 := rfl
@[simp] theorem State.resetEdge_lastCode : (s.resetEdge).lastCode = 0 := rfl
@[simp] theorem State.resetEdge_idx : (s.resetEdge).idx = 0 := rfl
@[simp] theorem State.resetEdge_fsm : (s.resetEdge).fsm = .stopped := rfl
@[simp] theorem State.resetEdge_now : (s.resetEdge).now = 0 := rfl
@[simp] theorem State.resetEdge_t0 : (s.resetEdge).t0 = 0 := rfl
@[simp] theorem State.resetEdge_es : (s.resetEdge).es = 0 := rfl
@[simp] theorem State.resetEdge_code : (s.resetEdge).code = 0 := rfl
@[simp] theorem State.resetEdge_inputs : (s.resetEdge).inputs = s.inputs.tail := rfl
@[simp] theorem State.resetEdge_out : (s.resetEdge).out = Outputs.inReset := rfl
@[simp] theorem State.resetEdge_outstanding : (s.resetEdge).outstanding = s.answered := rfl
@[simp] theorem State.resetEdge_requests : (s.resetEdge).requests = s.requests := rfl
@[simp] theorem State.resetEdge_wire : (s.resetEdge).wire = s.wire := rfl
@[simp] theorem State.resetEdge_draws : (s.resetEdge).draws = s.draws := rfl

/-! ### Reading a step entry draws at most a free value (R28) -/

@[simp] theorem State.afterStepRead_par (i : Nat) : (s.afterStepRead i).par = s.par := by
  unfold State.afterStepRead; split <;> rfl
@[simp] theorem State.afterStepRead_ctrl (i : Nat) : (s.afterStepRead i).ctrl = s.ctrl := by
  unfold State.afterStepRead; split <;> rfl
@[simp] theorem State.afterStepRead_lo (i : Nat) : (s.afterStepRead i).lo = s.lo := by
  unfold State.afterStepRead; split <;> rfl
@[simp] theorem State.afterStepRead_hi (i : Nat) : (s.afterStepRead i).hi = s.hi := by
  unfold State.afterStepRead; split <;> rfl
@[simp] theorem State.afterStepRead_ftw (i : Nat) : (s.afterStepRead i).ftw = s.ftw := by
  unfold State.afterStepRead; split <;> rfl
@[simp] theorem State.afterStepRead_repeatN (i : Nat) : (s.afterStepRead i).repeatN = s.repeatN := by
  unfold State.afterStepRead; split <;> rfl
@[simp] theorem State.afterStepRead_stepLen (i : Nat) : (s.afterStepRead i).stepLen = s.stepLen := by
  unfold State.afterStepRead; split <;> rfl
@[simp] theorem State.afterStepRead_table (i : Nat) : (s.afterStepRead i).table = s.table := by
  unfold State.afterStepRead; split <;> rfl
@[simp] theorem State.afterStepRead_done (i : Nat) : (s.afterStepRead i).done = s.done := by
  unfold State.afterStepRead; split <;> rfl
@[simp] theorem State.afterStepRead_err (i : Nat) : (s.afterStepRead i).err = s.err := by
  unfold State.afterStepRead; split <;> rfl
@[simp] theorem State.afterStepRead_errCount (i : Nat) : (s.afterStepRead i).errCount = s.errCount := by
  unfold State.afterStepRead; split <;> rfl
@[simp] theorem State.afterStepRead_cyc (i : Nat) : (s.afterStepRead i).cyc = s.cyc := by
  unfold State.afterStepRead; split <;> rfl
@[simp] theorem State.afterStepRead_lastCode (i : Nat) : (s.afterStepRead i).lastCode = s.lastCode := by
  unfold State.afterStepRead; split <;> rfl
@[simp] theorem State.afterStepRead_idx (i : Nat) : (s.afterStepRead i).idx = s.idx := by
  unfold State.afterStepRead; split <;> rfl
@[simp] theorem State.afterStepRead_fsm (i : Nat) : (s.afterStepRead i).fsm = s.fsm := by
  unfold State.afterStepRead; split <;> rfl
@[simp] theorem State.afterStepRead_now (i : Nat) : (s.afterStepRead i).now = s.now := by
  unfold State.afterStepRead; split <;> rfl
@[simp] theorem State.afterStepRead_t0 (i : Nat) : (s.afterStepRead i).t0 = s.t0 := by
  unfold State.afterStepRead; split <;> rfl
@[simp] theorem State.afterStepRead_es (i : Nat) : (s.afterStepRead i).es = s.es := by
  unfold State.afterStepRead; split <;> rfl
@[simp] theorem State.afterStepRead_code (i : Nat) : (s.afterStepRead i).code = s.code := by
  unfold State.afterStepRead; split <;> rfl
@[simp] theorem State.afterStepRead_inputs (i : Nat) : (s.afterStepRead i).inputs = s.inputs := by
  unfold State.afterStepRead; split <;> rfl
@[simp] theorem State.afterStepRead_out (i : Nat) : (s.afterStepRead i).out = s.out := by
  unfold State.afterStepRead; split <;> rfl
@[simp] theorem State.afterStepRead_outstanding (i : Nat) : (s.afterStepRead i).outstanding = s.outstanding := by
  unfold State.afterStepRead; split <;> rfl
@[simp] theorem State.afterStepRead_requests (i : Nat) : (s.afterStepRead i).requests = s.requests := by
  unfold State.afterStepRead; split <;> rfl
@[simp] theorem State.afterStepRead_wire (i : Nat) : (s.afterStepRead i).wire = s.wire := by
  unfold State.afterStepRead; split <;> rfl

end Sys2Proof.Machine
end

