-- ==== Sys2Proof/Laws/Ops.lean ====
section
/-! SUPPORT. For each shared operation, once, everything it can do; and the readings of the state that an update leaves
alone. -/

namespace Sys2Proof.Machine

variable {s t : State}

/-! ### Readings that depend on a few fields only -/

theorem State.mode_congr (h : t.ctrl = s.ctrl) : t.mode = s.mode := by rw [State.mode, h, State.mode]

theorem State.verbose_congr (h : t.ctrl = s.ctrl) : t.verbose = s.verbose := by rw [State.verbose, h, State.verbose]

theorem State.busAddr_congr (hc : t.ctrl = s.ctrl) (hp : t.par = s.par) : t.busAddr = s.busAddr := by
  unfold State.busAddr State.addrSel
  rw [hc, hp]

theorem State.pins_congr (h : t.inputs = s.inputs) : t.pins = s.pins := by rw [State.pins, h, State.pins]

theorem State.running_congr (h : t.fsm = s.fsm) : t.running = s.running := by rw [State.running, h, State.running]

theorem State.elapsed_congr (hn : t.now = s.now) (h0 : t.t0 = s.t0) : t.elapsed = s.elapsed := by
  simp only [State.elapsed, hn, h0]

theorem State.held_congr (hn : t.now = s.now) (he : t.es = s.es) : t.held = s.held := by
  simp only [State.held, hn, he]

@[simp] theorem State.running_eq_true : s.running = true ↔ s.fsm ≠ .stopped := by simp [State.running]

@[simp] theorem State.running_eq_false : s.running = false ↔ s.fsm = .stopped := by simp [State.running]

@[simp] theorem State.beginCycle_pins : s.beginCycle.pins = s.pins := rfl

@[simp] theorem State.beginCycle_mode : s.beginCycle.mode = s.mode := rfl

@[simp] theorem State.beginCycle_busAddr : s.beginCycle.busAddr = s.busAddr := rfl

@[simp] theorem State.beginCycle_running : s.beginCycle.running = s.running := rfl

/-! ### The step table read -/

/-- A written entry is read without drawing a free value (R28). -/
theorem State.stepEntry_written {i : Nat} {w : Word} (h : s.table.read i = some w) :
    s.stepEntry i = w ∧ s.afterStepRead i = s := by
  simp [State.stepEntry, State.afterStepRead, h]

/-- An entry nothing has written reads as a free value, drawn anew (R28). -/
theorem State.stepEntry_unwritten {i : Nat} (h : s.table.read i = none) :
    s.stepEntry i = Config.unwrittenEntry i s.draws ∧ s.afterStepRead i = { s with draws := s.draws + 1 } := by
  simp [State.stepEntry, State.afterStepRead, h]

/-! ### The register map (R14, R32) -/

/-- The slots of the step table. -/
theorem regOf_step {depth i : Nat} {a : BitVec 10} (hi : i < depth) (h : a.toNat = 0x100 + i) :
    regOf depth a = .step i := by
  unfold regOf regAt byteOffset
  rw [h]
  iterate 11 rw [if_neg (by omega)]
  rw [if_pos ⟨by omega, by omega⟩, show (4 * (0x100 + i) - 0x400) / 4 = i by omega]

/-- Only these slots are the step table's. -/
theorem regOf_eq_step {depth i : Nat} {a : BitVec 10} (h : regOf depth a = .step i) :
    a.toNat = 0x100 + i ∧ i < depth := by
  have skip {c : Prop} [Decidable c] {r q : Reg} (hr : r ≠ .step i) (hq : (if c then r else q) = .step i) :
      q = .step i := by
    by_cases hc : c
    · exact absurd ((if_pos hc).symm.trans hq) hr
    · exact (if_neg hc).symm.trans hq
  unfold regOf regAt byteOffset at h
  iterate 11 replace h := skip Reg.noConfusion h
  by_cases hc : 0x400 ≤ 4 * a.toNat ∧ 4 * a.toNat < 0x400 + 4 * depth
  · rw [if_pos hc] at h
    injection h with h
    omega
  · rw [if_neg hc] at h
    exact Reg.noConfusion h

/-- The reserved slots. -/
theorem regOf_reserved {depth : Nat} {a : BitVec 10}
    (h : 0x00B ≤ a.toNat ∧ (a.toNat < 0x100 ∨ 0x100 + depth ≤ a.toNat)) : regOf depth a = .reserved := by
  unfold regOf regAt byteOffset
  iterate 12 rw [if_neg (by omega)]

/-! ### The host port -/

/-- A register read leaves the state as it was, or has drawn one free value (R52). -/
theorem State.afterRegRead_cases (s : State) (r : Reg) :
    s.afterRegRead r = s ∨ s.afterRegRead r = { s with draws := s.draws + 1 } := by
  cases r <;> simp only [State.afterRegRead, true_or]
  unfold State.afterStepRead
  split <;> simp

/-- What START can do (R56, R57, R58). -/
theorem State.startCommand_cases (s : State) :
    (s.fsm ≠ .stopped ∧ s.startCommand = s)
    ∨ (s.fsm = .stopped ∧ s.startError = .none ∧ s.startCommand = s.accept s.mode)
    ∨ (s.fsm = .stopped ∧ s.startError ≠ .none ∧ s.startCommand = s.reject s.startError) := by
  by_cases hf : s.fsm = .stopped <;> by_cases he : s.startError = .none <;>
    simp [State.startCommand, State.launch, State.running, hf, he]

/-- A START is accepted exactly when its four checks pass (R56). -/
theorem State.startError_none : s.startError = .none ↔
    s.pins.tpAvail = true ∧ s.mode ≠ 3 ∧ s.ftw ≠ 0
      ∧ (s.mode = 0 → s.stepLen.toNat ≠ 0 ∧ s.stepLen.toNat ≤ s.par.stepDepth) := by
  unfold State.startError State.modeError
  by_cases ha : s.pins.tpAvail = true <;> simp only [ha, if_true, if_false, true_and, false_and, Bool.false_eq_true,
    reduceCtorEq, iff_self]
  by_cases hm : s.mode = 3 <;> simp only [hm, if_true, if_false, reduceCtorEq, ne_eq, not_true, not_false_eq_true,
    true_and, false_and]
  by_cases hf : s.ftw = 0 <;> simp only [hf, if_true, if_false, reduceCtorEq, not_true, not_false_eq_true, true_and,
    false_and]
  by_cases h0 : s.mode = 0 <;> simp only [h0, true_and, false_and, if_false, false_imp_iff, true_imp_iff]
  by_cases hl : s.stepLen.toNat = 0
  · simp [hl]
  · by_cases hd : s.par.stepDepth < s.stepLen.toNat
    · simp [hl, hd]
    · simp [hl, hd, Nat.not_lt.mp hd]

/-- What a write can do (R53, R54). -/
theorem State.hostWrite_cases (s : State) (a : BitVec 10) (w : Word) :
    s.hostWrite a w = s ∨ s.hostWrite a w = s.startCommand
    ∨ (s.fsm = .stopped ∧ s.hostWrite a w = s.regWrite w (regOf s.par.stepDepth a)) := by
  unfold State.hostWrite State.command
  split
  · split
    · exact .inr (.inl rfl)
    · exact .inl rfl
  · split
    · exact .inl rfl
    · next h => exact .inr (.inr ⟨by simpa using h, rfl⟩)

/-- In STOPPED a write of any slot but CMD is the register write (R53). -/
theorem State.hostWrite_stopped (a : BitVec 10) (w : Word) (h : s.fsm = .stopped) (ha : byteOffset a ≠ 0x004) :
    s.hostWrite a w = s.regWrite w (regOf s.par.stepDepth a) := by
  rw [State.hostWrite, if_neg ha, if_neg (by simp [h])]

/-- A write to CMD is a command (R53). -/
theorem State.hostWrite_cmd (w : Word) : s.hostWrite cmdSlot w = s.command w := if_pos rfl

/-- A read changes the read data and at most the count of free values (R52). -/
theorem State.hostRead_cases (s : State) (a : BitVec 10) :
    ∃ d, s.hostRead a = { s with
      out := { s.out with rdata := some (s.regRead (regOf s.par.stepDepth a)) }, draws := d } := by
  unfold State.hostRead
  rcases State.afterRegRead_cases s (regOf s.par.stepDepth a) with h | h
  · exact ⟨s.draws, by simp only [h]⟩
  · exact ⟨s.draws + 1, by simp only [h]⟩

/-- While a run is in progress a write of any slot, CMD too, changes nothing (R54, R55, R58). -/
theorem State.hostWrite_running (a : BitVec 10) (w : Word) (h : s.fsm ≠ .stopped) : s.hostWrite a w = s := by
  have hr : s.running = true := by simpa using h
  simp [State.hostWrite, State.command, State.startCommand, hr]

/-! ### Samples -/

/-- What P_SAMPLE can do (R70). -/
theorem State.sample_cases (s : State) (m : BitVec 2) :
    (s.repeatReached (phasePeriods s.elapsed s.ftw) = true ∧ s.sample m = s.countPeriods.stop .none 0)
    ∨ (s.repeatReached (phasePeriods s.elapsed s.ftw) = false
        ∧ s.sample m = s.countPeriods.issue (s.periodicV m)) := by
  unfold State.sample
  split
  · next h => exact .inl ⟨h, rfl⟩
  · next h => exact .inr ⟨by simpa using h, rfl⟩

/-- What S_HOLD can do (R76). -/
theorem State.hold_cases (s : State) :
    (s.holdOver = false ∧ s.hold = s)
    ∨ (s.holdOver = true ∧ s.lastEntry = true ∧ s.repeatReached (s.cyc.toNat + 1) = true
        ∧ s.hold = s.countPass.stop .none 0)
    ∨ (s.holdOver = true ∧ s.lastEntry = true ∧ s.repeatReached (s.cyc.toNat + 1) = false
        ∧ s.hold = s.countPass.issueEntry 0)
    ∨ (s.holdOver = true ∧ s.lastEntry = false ∧ s.hold = s.issueEntry (s.idx.toNat + 1)) := by
  unfold State.hold
  by_cases h1 : s.holdOver = true <;> by_cases h2 : s.lastEntry = true <;>
    by_cases h3 : s.repeatReached (s.cyc.toNat + 1) = true <;> simp [h1, h2, h3]

/-- The repeat policy is reached (R70, R76). -/
theorem State.repeatReached_iff {n : Nat} :
    s.repeatReached n = true ↔ 0 < s.repeatN.toNat ∧ s.repeatN.toNat ≤ n := by
  unfold State.repeatReached
  rw [Bool.and_eq_true, decide_eq_true_iff, decide_eq_true_iff]

/-- The hold of an entry is over (R76). -/
theorem State.holdOver_iff : s.holdOver = true ↔ 2 ^ 32 ≤ s.held.toNat * s.ftw.toNat := decide_eq_true_iff

/-- The current entry is the last one of the sequence (R76). -/
theorem State.lastEntry_iff : s.lastEntry = true ↔ s.idx.toNat + 1 = s.stepLen.toNat := decide_eq_true_iff

/-- Issuing an entry that nothing has written draws one free value (R71, R76; log entry 4). -/
theorem State.issueEntry_unwritten {i : Nat} (h : s.table.read i = none) :
    s.issueEntry i = { s with
      idx := BitVec.ofNat 8 i, es := s.now, code := quantize s.par.fullScaleUv (s.stepEntry i).toInt, fsm := .selReq,
      draws := s.draws + 1,
      out := { s.out with
        dbgValid := s.verbose, dbgVolt := if s.verbose then BitVec.ofInt 32 (s.stepEntry i).toInt else 0 } } := by
  rw [State.issueEntry, State.stepV, State.afterStepRead, h]
  rfl

/-- A read of an entry leaves at most the count of free values changed. -/
theorem State.afterStepRead_eq (s : State) (i : Nat) : ∃ d, s.afterStepRead i = { s with draws := d } := by
  unfold State.afterStepRead
  split
  · exact ⟨s.draws, rfl⟩
  · exact ⟨s.draws + 1, rfl⟩

/-- What the issue of an entry leaves (R71, R76). -/
theorem State.issueEntry_written {i : Nat} {w : Word} (h : s.table.read i = some w) :
    s.issueEntry i = { s with
      idx := BitVec.ofNat 8 i, es := s.now, code := quantize s.par.fullScaleUv w.toInt, fsm := .selReq,
      out := { s.out with
        dbgValid := s.verbose, dbgVolt := if s.verbose then BitVec.ofInt 32 w.toInt else 0 } } := by
  obtain ⟨he, ha⟩ := State.stepEntry_written h
  rw [State.issueEntry, State.stepV, he, ha]
  rfl

/-! ### The transport -/

/-- What a REQ state can do (R72, R74). -/
theorem State.present_cases (s : State) (op : Bool) (a : BusAddr) (d : BitVec 16) (f : Fsm) :
    (s.pins.tpReqReady = true ∧ s.present op a d f = (s.drive op a d).transfer (tpReqWord op a d) f)
    ∨ (s.pins.tpReqReady = false ∧ s.present op a d f = s.drive op a d) := by
  unfold State.present
  split
  · next h => exact .inl ⟨h, rfl⟩
  · next h => exact .inr ⟨by simpa using h, rfl⟩

/-- What SEL_WAIT can do (R73). -/
theorem State.selectWait_cases (s : State) :
    (s.pins.tpRspValid = false ∧ s.selectWait = s)
    ∨ (s.pins.tpRspValid = true ∧ s.pins.tpRsp.ok = true ∧ s.selectWait = { s with fsm := .wrReq })
    ∨ (s.pins.tpRspValid = true ∧ s.pins.tpRsp.ok = false ∧ s.selectWait = s.stop .transportSelect 0) := by
  unfold State.selectWait
  by_cases h1 : s.pins.tpRspValid = true <;> by_cases h2 : s.pins.tpRsp.ok = true <;> simp [h1, h2]

/-- What a successful WRITE can do (R75, R77). -/
theorem State.writeDone_cases (s : State) :
    (s.mode ≠ 0 ∧ s.writeDone = { s with lastCode := s.code, fsm := .pSample })
    ∨ (s.mode = 0 ∧ s.stepLen.toNat = 1 ∧ s.writeDone = ({ s with lastCode := s.code }).stop .none 0)
    ∨ (s.mode = 0 ∧ s.stepLen.toNat ≠ 1 ∧ s.writeDone = { s with lastCode := s.code, fsm := .sHold }) := by
  unfold State.writeDone
  by_cases h1 : s.mode = 0
  · rw [if_neg (not_not.mpr h1)]
    by_cases h2 : s.stepLen.toNat = 1
    · rw [if_pos h2]; exact .inr (.inl ⟨h1, h2, rfl⟩)
    · rw [if_neg h2]; exact .inr (.inr ⟨h1, h2, rfl⟩)
  · rw [if_pos h1]; exact .inl ⟨h1, rfl⟩

/-- What WR_WAIT can do (R75). -/
theorem State.writeWait_cases (s : State) :
    (s.pins.tpRspValid = false ∧ s.writeWait = s)
    ∨ (s.pins.tpRspValid = true ∧ s.pins.tpRsp.writeOk = true ∧ s.writeWait = s.writeDone)
    ∨ (s.pins.tpRspValid = true ∧ s.pins.tpRsp.writeOk = false
        ∧ s.writeWait = s.stop .transportWrite s.pins.tpRsp.count) := by
  unfold State.writeWait
  by_cases h1 : s.pins.tpRspValid = true <;> by_cases h2 : s.pins.tpRsp.writeOk = true <;> simp [h1, h2]

/-- A WRITE response succeeds exactly when OK = 1 and COUNT is at least 2 (R47). -/
theorem writeOk_iff (r : TpRsp) : r.writeOk = true ↔ r.ok = true ∧ 2 ≤ r.count.toNat := by
  simp [TpRsp.writeOk]

end Sys2Proof.Machine
end

