-- ==== Sys2Proof/Laws/PerInstr.lean ====
section
/-! SUPPORT. Statements made of every operation, one lemma for each: `TableRow`, the encoding of a well-formed operation
has the bits that its row of spec/opcode_table.json fixes. -/

namespace Sys2Proof.Laws.TableRow

/-- Bits `hi` to `lo` of the word `w`. -/
def bits (w hi lo : Nat) : Nat :=
  w / 2 ^ lo % 2 ^ (hi + 1 - lo)

/-- The fixed bits of the operation's row, as (hi, lo, value): the ones of the row's "mask", at their value in its
"match". -/
def fixed : Instr → List (Nat × Nat × Nat)
  | .start _ => [(42, 32, 0x401), (7, 0, 0x01)]
  | .nop _ _ => [(42, 32, 0x401)]
  | .wr _ _ => [(42, 42, 1)]
  | .rd _ _ => [(42, 42, 0)]
  | .modeStep => [(1, 0, 0)]
  | .modeSine => [(1, 0, 1)]
  | .modeSawtooth => [(1, 0, 2)]
  | .modeReserved => [(1, 0, 3)]
  | .tpSelect _ => [(23, 23, 0), (15, 0, 0)]
  | .tpWrite _ _ => [(23, 23, 1), (15, 12, 0)]
  | .dacFrame _ => [(15, 12, 0)]

/-- The encoding of a well-formed operation is a word of its row's format and length, with the row's fixed bits. -/
def Statement (i : Instr) : Prop :=
  i.wf = true →
    (encode i).format = i.format ∧ (encode i).toNat < 2 ^ i.format.width
      ∧ ∀ f ∈ fixed i, bits (encode i).toNat f.1 f.2.1 = f.2.2

/-- The numbers behind the named operands. -/
theorem cmdSlot_toNat : cmdSlot.toNat = 1 := rfl

theorem startOpcode_toNat : startOpcode.toNat = 1 := rfl

theorem start (upper : BitVec 24) : Statement (.start upper) := by
  refine fun _ => ⟨rfl, BitVec.isLt _, ?_⟩
  have := upper.isLt
  simp only [fixed, encode, Encoding.toNat, hostOpWord_toNat, commandWord_toNat, cmdSlot_toNat, startOpcode_toNat,
    bits, List.mem_cons, List.not_mem_nil, or_false, forall_eq_or_imp, forall_eq, Bool.toNat_true]
  omega

theorem nop (upper : BitVec 24) (opc : Byte) : Statement (.nop upper opc) := by
  refine fun _ => ⟨rfl, BitVec.isLt _, ?_⟩
  have := upper.isLt
  have := opc.isLt
  simp only [fixed, encode, Encoding.toNat, hostOpWord_toNat, commandWord_toNat, bits, cmdSlot_toNat,
    List.mem_cons, List.not_mem_nil, or_false, forall_eq, Bool.toNat_true]
  omega

theorem wr (waddr : BitVec 10) (data : Word) : Statement (.wr waddr data) := by
  refine fun _ => ⟨rfl, BitVec.isLt _, ?_⟩
  have := waddr.isLt
  have := data.isLt
  simp only [fixed, encode, Encoding.toNat, hostOpWord_toNat, bits, List.mem_cons, List.not_mem_nil, or_false,
    forall_eq, Bool.toNat_true]
  omega

theorem rd (waddr : BitVec 10) (data : Word) : Statement (.rd waddr data) := by
  refine fun _ => ⟨rfl, BitVec.isLt _, ?_⟩
  have := waddr.isLt
  have := data.isLt
  simp only [fixed, encode, Encoding.toNat, hostOpWord_toNat, bits, List.mem_cons, List.not_mem_nil, or_false,
    forall_eq, Bool.toNat_false]
  omega

theorem modeStep : Statement .modeStep := by unfold Statement; decide

theorem modeSine : Statement .modeSine := by unfold Statement; decide

theorem modeSawtooth : Statement .modeSawtooth := by unfold Statement; decide

theorem modeReserved : Statement .modeReserved := by unfold Statement; decide

theorem tpSelect (addr : BusAddr) : Statement (.tpSelect addr) := by
  refine fun _ => ⟨rfl, BitVec.isLt _, ?_⟩
  have := addr.isLt
  simp only [fixed, encode, Encoding.toNat, selectWord, tpReqWord_toNat, bits, List.mem_cons, List.not_mem_nil,
    or_false, forall_eq_or_imp, forall_eq, Bool.toNat_false, show (0 : BitVec 16).toNat = 0 from rfl]
  omega

theorem tpWrite (addr : BusAddr) (code : Code) : Statement (.tpWrite addr code) := by
  refine fun _ => ⟨rfl, BitVec.isLt _, ?_⟩
  have := addr.isLt
  have := code.isLt
  simp only [fixed, encode, Encoding.toNat, writeWord, tpReqWord_toNat, frame16_toNat, bits, List.mem_cons,
    List.not_mem_nil, or_false, forall_eq_or_imp, forall_eq, Bool.toNat_true]
  omega

theorem dacFrame (code : Code) : Statement (.dacFrame code) := by
  refine fun _ => ⟨rfl, BitVec.isLt _, ?_⟩
  have := code.isLt
  simp only [fixed, encode, Encoding.toNat, frame16_toNat, bits, List.mem_cons, List.not_mem_nil, or_false, forall_eq]
  omega

end Sys2Proof.Laws.TableRow
end

