-- ==== Sys2Proof/Laws/Step.lean ====
section
/-! SUPPORT. One cycle in closed form: the reset edge, or the host's part, then the loop controller's part, then the
NOW increment (R9). -/

namespace Sys2Proof.Machine

variable {s t : State}

@[simp] theorem runOps_nil : runOps [] s = .next s := rfl

theorem runOps_cons_next {i : Instr} {is : List Instr} (h : exec i s = .next t) :
    runOps (i :: is) s = runOps is t := by
  simp only [runOps, h]

/-- The host's part of a cycle (R52, R53): what the access on the port does. -/
def State.hostPhase (s : State) : State :=
  if s.pins.hpValid then
    if s.pins.hpWe then s.beginCycle.hostWrite s.pins.hpAddr s.pins.hpWdata
    else s.beginCycle.hostRead s.pins.hpAddr
  else s.beginCycle

/-- The loop controller's part of a cycle that began in `s`, applied to `u` (R69 to R76). -/
def State.loopPhase (s u : State) : State :=
  match s.fsm with
  | .stopped => u
  | .pSample => u.sample s.mode
  | .sEntry => u.firstEntry
  | .sHold => u.hold
  | .selReq => u.present false s.busAddr 0 .selWait
  | .selWait => u.selectWait
  | .wrReq =>
    if s.pins.tpReqReady then (u.present true s.busAddr (frame16 s.code) .wrWait).handFrame s.code
    else u.present true s.busAddr (frame16 s.code) .wrWait
  | .wrWait => u.writeWait

/-- A write on the host port does what R53 says, whether its word decodes to START, NOP or WR. -/
theorem exec_hostWrite (a : BitVec 10) (w : Word) (s : State) :
    exec (decodeHostOp (hostOpWord true a w)) s = .next (s.hostWrite a w) := by
  by_cases ha : a = cmdSlot
  · subst ha
    rw [decodeHostOp_command]
    by_cases ho : w.extractLsb' 0 8 = startOpcode
    · rw [decodeCommand_start ho]
      show _ = Host.Outcome.next (s.command w)
      rw [State.command, if_pos ho]; rfl
    · rw [decodeCommand_nop ho]
      show _ = Host.Outcome.next (s.command w)
      rw [State.command, if_neg ho]; rfl
  · rw [decodeHostOp_wr w ha]; rfl

/-- A read on the host port does what R52 says. -/
theorem exec_hostRead (a : BitVec 10) (w : Word) (s : State) :
    exec (decodeHostOp (hostOpWord false a w)) s = .next (s.hostRead a) := by
  rw [decodeHostOp_rd]; rfl

/-- The row of CTRL.MODE does what the mode does in the cycle (R44). -/
theorem exec_mode (m : BitVec 2) (s : State) : exec (decodeMode m) s = .next (s.modeCycle m) := by
  have : m = 0 ∨ m = 1 ∨ m = 2 ∨ m = 3 := by
    have := m.isLt
    rcases (by omega : m.toNat = 0 ∨ m.toNat = 1 ∨ m.toNat = 2 ∨ m.toNat = 3) with h | h | h | h
    · exact .inl (BitVec.eq_of_toNat_eq h)
    · exact .inr (.inl (BitVec.eq_of_toNat_eq h))
    · exact .inr (.inr (.inl (BitVec.eq_of_toNat_eq h)))
    · exact .inr (.inr (.inr (BitVec.eq_of_toNat_eq h)))
  rcases this with rfl | rfl | rfl | rfl <;> rfl

/-- The host operations of a cycle give its host part. -/
theorem runOps_hostOps (s : State) (is : List Instr) :
    runOps (s.hostOps ++ is) s.beginCycle = runOps is s.hostPhase := by
  unfold State.hostOps State.hostPhase Pins.hostWord
  split
  · cases hw : s.pins.hpWe
    · exact runOps_cons_next (exec_hostRead _ _ _)
    · exact runOps_cons_next (exec_hostWrite _ _ _)
  · rfl

/-- Everything the host's part of a cycle can be: nothing, a read, a START, or a register write in STOPPED. -/
theorem State.hostPhase_cases (s : State) :
    s.hostPhase = s.beginCycle
    ∨ (s.pins.hpValid = true ∧ s.pins.hpWe = false ∧ s.hostPhase = s.beginCycle.hostRead s.pins.hpAddr)
    ∨ (s.pins.hpValid = true ∧ s.pins.hpWe = true ∧ s.pins.hpAddr = cmdSlot
        ∧ s.pins.hpWdata.extractLsb' 0 8 = startOpcode ∧ s.hostPhase = s.beginCycle.startCommand)
    ∨ (s.pins.hpValid = true ∧ s.pins.hpWe = true ∧ s.pins.hpAddr ≠ cmdSlot ∧ s.fsm = .stopped
        ∧ s.hostPhase = s.beginCycle.regWrite s.pins.hpWdata (regOf s.par.stepDepth s.pins.hpAddr)) := by
  unfold State.hostPhase
  cases hv : s.pins.hpValid
  · exact .inl rfl
  cases hw : s.pins.hpWe
  · exact .inr (.inl ⟨rfl, rfl, rfl⟩)
  by_cases ha : s.pins.hpAddr = cmdSlot
  · rw [ha]
    simp only [if_true, State.hostWrite_cmd, State.command]
    split
    · next ho => exact .inr (.inr (.inl ⟨trivial, trivial, trivial, ho, rfl⟩))
    · exact .inl rfl
  · by_cases hf : s.fsm = .stopped
    · refine .inr (.inr (.inr ⟨rfl, rfl, ha, hf, ?_⟩))
      refine State.hostWrite_stopped _ _ hf fun h => ha (BitVec.eq_of_toNat_eq ?_)
      unfold byteOffset at h
      show s.pins.hpAddr.toNat = 1
      omega
    · exact .inl (State.hostWrite_running _ _ hf)

/-- The host's part of a cycle leaves the state of the controller alone while a run is in progress. -/
theorem State.hostPhase_running (h : s.fsm ≠ .stopped) :
    ∃ r d, s.hostPhase = { s.beginCycle with out := { s.beginCycle.out with rdata := r }, draws := d } := by
  rcases s.hostPhase_cases with h' | ⟨-, -, h'⟩ | ⟨-, -, -, -, h'⟩ | ⟨-, -, -, hf, -⟩
  · exact ⟨none, s.draws, h'⟩
  · obtain ⟨d, hd⟩ := s.beginCycle.hostRead_cases s.pins.hpAddr
    exact ⟨_, d, h'.trans hd⟩
  · have hr : s.beginCycle.running = true := by simpa using h
    exact ⟨none, s.draws, by rw [h', State.startCommand, if_pos hr]; rfl⟩
  · exact absurd hf h

theorem State.hostPhase_fsm (h : s.fsm ≠ .stopped) : s.hostPhase.fsm = s.fsm := by
  obtain ⟨r, d, h⟩ := State.hostPhase_running h
  rw [h]; rfl

/-- The controller's operations of a cycle give its controller part. -/
theorem runOps_loopOps (u : State) (hu : s.fsm ≠ .stopped → u.fsm = s.fsm) :
    runOps s.loopOps u = .next (s.loopPhase u) := by
  cases hf : s.fsm <;> simp only [hf, ne_eq, reduceCtorEq, not_false_eq_true, not_true, true_imp_iff,
    false_imp_iff] at hu <;> simp only [State.loopOps, State.loopPhase, hf]
  · rfl
  · rw [runOps_cons_next (exec_mode _ _), runOps_nil]; simp only [State.modeCycle, hu]
  · rw [runOps_cons_next (exec_mode _ _), runOps_nil]; simp only [State.modeCycle, hu]
  · simp [runOps, exec, execTpSelect, hu]
  · simp [runOps, exec, execTpSelect, hu]
  · split <;> simp [runOps, exec, execTpWrite, execDacFrame, hu]
  · simp [runOps, exec, execTpWrite, hu]
  · rw [runOps_cons_next (exec_mode _ _), runOps_nil]; simp only [State.modeCycle, hu]

/-- One cycle, in closed form (R9). -/
theorem step_eq (s : State) :
    step s = .next (if s.pins.rst then s.resetEdge else (s.loopPhase s.hostPhase).endCycle) := by
  unfold step State.cycleOps
  rw [runOps_hostOps, runOps_loopOps _ State.hostPhase_fsm]
  cases s.pins.rst <;> rfl

/-- A cycle without reset. -/
theorem step_live (h : s.pins.rst = false) : step s = .next (s.loopPhase s.hostPhase).endCycle := by
  rw [step_eq, h]; rfl

/-- A reset cycle. -/
theorem step_reset (h : s.pins.rst = true) : step s = .next s.resetEdge := by
  rw [step_eq, h]; rfl

end Sys2Proof.Machine
end

