-- ==== Sys2Proof/Laws/Run.lean ====
section
/-! SUPPORT. Runs of several cycles: the first cycle, the last cycle, and that every run has a next state. -/

namespace Sys2Proof.Machine

variable {s t u : State}

/-- A run of any machine begins with its first step. -/
theorem Core_run_succ (M : Host.Core) (n : Nat) {s t : M.State} (h : M.step s = .next t) :
    M.run (n + 1) s = M.run n t := by
  rw [Host.Core.run, h]

@[simp] theorem run_zero (s : State) : Host.Core.run core 0 s = .next s := rfl

/-- A run begins with its first cycle. -/
theorem run_succ (n : Nat) (h : step s = .next t) : Host.Core.run core (n + 1) s = Host.Core.run core n t :=
  Core_run_succ core n h

/-- A run ends with its last cycle. -/
theorem run_last (n : Nat) (h : Host.Core.run core n s = .next t) (hu : step t = .next u) :
    Host.Core.run core (n + 1) s = .next u := by
  induction n generalizing s with
  | zero => cases h; exact run_succ 0 hu
  | succ n ih =>
    rw [run_succ n (step_eq s)] at h
    rw [run_succ (n + 1) (step_eq s)]
    exact ih h

/-- Every run has a next state. -/
theorem run_next (n : Nat) (s : State) : ∃ t, Host.Core.run core n s = .next t := by
  induction n generalizing s with
  | zero => exact ⟨s, rfl⟩
  | succ n ih => rw [run_succ n (step_eq s)]; exact ih _

end Sys2Proof.Machine
end

