-- ==== Sys2Proof/Laws/Sine.lean ====
section
/-! SUPPORT. What is known of the quarter wave of either implementation, of its folding, and of the clock frequency. -/

namespace Sys2Proof.Machine

theorem quarterWave_zero (impl : SineImpl) : quarterWave impl 0 = 0 := by
  cases impl
  · rfl
  · exact cordic.at_zero

theorem quarterWave_quarter (impl : SineImpl) : quarterWave impl 4096 = 32767 := by
  cases impl
  · rfl
  · exact cordic.at_quarter

theorem quarterWave_le (impl : SineImpl) {j : Nat} (h : j ≤ 4096) : quarterWave impl j ≤ 32767 := by
  cases impl
  · exact romQ_le j h
  · exact cordic.le_top j h

theorem sineErr_le (impl : SineImpl) : sineErr impl ≤ 2 := by
  cases impl
  · exact (by norm_num : (1 / 2 : ℚ) ≤ 2)
  · exact cordic.errSin_le

/-- S3 of R63 on the quarter wave. -/
theorem quarterWave_close (impl : SineImpl) {j : Nat} (h : j ≤ 4096) :
    |(quarterWave impl j : ℝ) - 32767 * Real.sin (2 * Real.pi * j / 16384)| ≤ (sineErr impl : ℝ) := by
  cases impl
  · exact (romQ_close j h).le.trans (by norm_num [sineErr])
  · exact cordic.close j h

/-- The folding, quadrant by quadrant (R83). -/
theorem foldQuarter_eq (q : Nat → Nat) (k : BitVec 14) :
    foldQuarter q k =
      if k.toNat < 4096 then (q k.toNat : Int)
      else if k.toNat < 8192 then (q (8192 - k.toNat) : Int)
      else if k.toNat < 12288 then -(q (k.toNat - 8192) : Int)
      else -(q (16384 - k.toNat) : Int) := by
  have hk := k.isLt
  have hr : (k.extractLsb' 0 12).toNat = k.toNat % 2 ^ 12 := by
    rw [BitVec.extractLsb'_toNat, Nat.shiftRight_zero]
  have hq : ∀ n : Nat, n < 4 → (k.extractLsb' 12 2 = BitVec.ofNat 2 n ↔ k.toNat / 4096 = n) := by
    intro n hn
    rw [← BitVec.toNat_inj, BitVec.extractLsb'_toNat, Nat.shiftRight_eq_div_pow, BitVec.toNat_ofNat]
    omega
  have h0 := hq 0 (by omega)
  have h1 := hq 1 (by omega)
  have h2 := hq 2 (by omega)
  simp only [foldQuarter, hr, show (0 : BitVec 2) = BitVec.ofNat 2 0 from rfl,
    show (1 : BitVec 2) = BitVec.ofNat 2 1 from rfl, show (2 : BitVec 2) = BitVec.ofNat 2 2 from rfl, h0, h1, h2]
  have same : ∀ a b : Nat, a = b → (q a : Int) = q b := fun a b h => by rw [h]
  split_ifs <;> first
    | (exfalso; omega)
    | exact same _ _ (by omega)
    | exact congrArg Neg.neg (same _ _ (by omega))

/-- P_F_TICK_HZ is positive (R5). -/
theorem tickHz_pos : 0 < Config.tickHz :=
  TickRate.pos _

end Sys2Proof.Machine
end

