-- ==== Sys2Proof/Machine/Assembly.lean ====
section
/-! DEFINITION. The host-program assembly of R50 and R51: the register operand, and each statement as its operation.
`WAITSTOP` is a loop of the host and no single transaction (R51), so it has no operation here. -/

namespace Sys2Proof.Machine

/-- The byte offset of a register operand (R14, R50). An `@` operand is a multiple of 4 inside the window; it and the
reserved slots have no name, hence no offset here. The grammar sets no bound on an index either; one whose offset
is past the window has no transaction. DESIGN CHOICE (log entry 25). -/
def Reg.offset? : Reg → Option Nat
  | .ctrl => some 0x000
  | .cmd => some 0x004
  | .lo => some 0x008
  | .hi => some 0x00C
  | .ftw => some 0x010
  | .repeatN => some 0x014
  | .stepLen => some 0x018
  | .status => some 0x01C
  | .cycles => some 0x020
  | .lastCode => some 0x024
  | .stepIdx => some 0x028
  | .step i => if i < 768 then some (0x400 + 4 * i) else none
  | .reserved => none

/-- WADDR = offset / 4 for an offset that is a multiple of 4 in the 4 KiB window (R35, R50); an access that is not to a
whole word has no transaction, nor has one past the window (DESIGN CHOICE, log entry 25). -/
def waddrOf? (off : Nat) : Option (BitVec 10) :=
  if off < 4096 ∧ off % 4 = 0 then some (BitVec.ofNat 10 (off / 4)) else none

/-- A value operand: a decimal, negative decimals in 32-bit two's complement, or a hexadecimal (R50). The grammar sets
no bound and the spec does not say what a value that does not fit 32 bits writes; it is reduced modulo 2^32 here.
DESIGN CHOICE (log entry 25). -/
def asmValue (v : Int) : Word :=
  BitVec.ofInt 32 v

/-- The write transaction of a slot: a write to CMD is the command's operation, any other is `WR` (R43, R50). -/
def asmWrAt (waddr : BitVec 10) (v : Int) : Instr :=
  if waddr = cmdSlot then decodeCommand (asmValue v) else .wr waddr (asmValue v)

/-- `WR reg, value` (R50). -/
def asmWr (r : Reg) (v : Int) : Option Instr :=
  (r.offset?.bind waddrOf?).map fun a => asmWrAt a v

/-- `RD reg`: DATA = 0 (R50). -/
def asmRd (r : Reg) : Option Instr :=
  (r.offset?.bind waddrOf?).map fun a => .rd a 0

/-- `WR @off, value` (R50). -/
def asmWrRaw (off : Nat) (v : Int) : Option Instr :=
  (waddrOf? off).map fun a => asmWrAt a v

/-- `RD @off` (R50). -/
def asmRdRaw (off : Nat) : Option Instr :=
  (waddrOf? off).map fun a => .rd a 0

/-- The pseudo `START` = `WR CMD, 0x00000001` (R51). -/
def asmStart : Option Instr :=
  asmWr .cmd 1

/-- The pseudo `NOP` = `WR CMD, 0x00000000` (R51). -/
def asmNop : Option Instr :=
  asmWr .cmd 0

/-- The pseudo `SETCTRL m, a, v` = `WR CTRL, m + 4·a + 8·v` (R51). -/
def asmSetCtrl (m : BitVec 2) (a v : Bool) : Option Instr :=
  asmWr .ctrl (m.toNat + 4 * a.toNat + 8 * v.toNat : Nat)

end Sys2Proof.Machine
end

