-- ==== Sys2Proof/Tests/Slice0.lean ====
section
/-! SUPPORT. Tests of the model on fixed values, each from the spec's own vectors (spec/95_test_vectors.md, cited by
section), and one witness for each statement that has hypotheses: a state and operands that meet all of them. -/

open Sys2Proof Sys2Proof.Machine Sys2Proof.Safety

/-! ### Helpers -/

/-- A state like reset, in the controller state `f`, with one cycle's pins. -/
def testState (f : Fsm) (p : Pins) : State :=
  { State.reset with fsm := f, inputs := [p] }

/-- The state an operation leaves. -/
def testAfter (o : Host.Outcome State Fault Refusal) : Option State :=
  match o with
  | .next t => some t
  | .fault _ => none
  | .refused _ => none

/-- The pins of the standard test harness, with a good response. -/
def testGoodPins : Pins :=
  { Pins.idle with tpAvail := true, tpReqReady := true, tpRspValid := true, tpRsp := { ok := true, count := 2 } }

/-- A HOSTOP on the pins. -/
def testAccess (w : BitVec 43) : Pins :=
  Pins.idle.withHostOp w

/-- Program P1 of 95_test_vectors.md section 3, NOW ticks after reset, with T0 = 6. -/
def testP1 (now : Nat) (f : Fsm) (p : Pins) : State :=
  { testState f p with
    ctrl := 9, hi := 2500000, ftw := 0x10000000, repeatN := 1, now := BitVec.ofNat 64 now, t0 := 6 }

/-- Program P3 of 95_test_vectors.md section 3, in S_HOLD of entry `i`, with ES = 8. -/
def testP3 (now i : Nat) (p : Pins) : State :=
  { testState .sHold p with
    ftw := 0x20000000, repeatN := 2, stepLen := 3, idx := BitVec.ofNat 8 i, now := BitVec.ofNat 64 now, t0 := 8, es := 8,
    table := [(0, BitVec.ofInt 32 (-100000)), (1, 1650000), (2, 3500000)] }

/-! ### Well-formedness refuses -/

theorem test_wf_refuses_nop_with_start_opcode : (Instr.nop 0 1).wf = false := by decide

theorem test_wf_refuses_wr_to_cmd : (Instr.wr 1 0).wf = false := by decide

/-! ### Decoding: words written out from R42 to R48 and section 2.8 -/

theorem test_decode_start : decode (.hostOp 0b10000000001_000000000000000000000000_00000001) = .ok (.start 0) := by
  decide

theorem test_decode_start_ignores_upper_bits :
    decode (.hostOp 0b10000000001_111111111111111111111111_00000001) = .ok (.start 0xFFFFFF) := by decide

theorem test_decode_nop : decode (.hostOp 0b10000000001_000000000000000000000000_10000000) = .ok (.nop 0 0x80) := by
  decide

theorem test_decode_wr :
    decode (.hostOp 0b1_0000000011_00000000001001100010010110100000) = .ok (.wr 3 2500000) := by decide

theorem test_decode_rd :
    decode (.hostOp 0b0_0000000111_00000000000000000000000000000000) = .ok (.rd 7 0) := by decide

theorem test_decode_modes :
    decode (.ctrlMode 0b00) = .ok .modeStep ∧ decode (.ctrlMode 0b01) = .ok .modeSine
      ∧ decode (.ctrlMode 0b10) = .ok .modeSawtooth ∧ decode (.ctrlMode 0b11) = .ok .modeReserved := by decide

theorem test_decode_select : decode (.tpReq 0b0_1100001_0000000000000000) = .ok (.tpSelect 0x61) := by decide

theorem test_decode_write : decode (.tpReq 0b1_1100000_0000_101010111100) = .ok (.tpWrite 0x60 0xABC) := by decide

theorem test_decode_frame : decode (.frame16 0b0000_101010111100) = .ok (.dacFrame 0xABC) := by decide

theorem test_decode_refuses_by_name :
    decode (.tpReq 0x600001) = .error .selectWithData ∧ decode (.tpReq 0xE01ABC) = .error .writeUpperNibble
      ∧ decode (.frame16 0x1ABC) = .error .frameUpperNibble ∧ decodeWord 32 0 = .error .unknownLength := by decide

/-- The match words of the table's rows, numbered as spec/opcode_table.json numbers them. -/
theorem test_decode_table_words :
    decodeTableWord 48 0x40100000001 = some (.start 0) ∧ decodeTableWord 48 0x40100000000 = some (.nop 0 0)
      ∧ decodeTableWord 48 0x40000000000 = some (.wr 0 0) ∧ decodeTableWord 48 0 = some (.rd 0 0)
      ∧ decodeTableWord 8 0 = some .modeStep ∧ decodeTableWord 8 1 = some .modeSine
      ∧ decodeTableWord 8 2 = some .modeSawtooth ∧ decodeTableWord 8 3 = some .modeReserved
      ∧ decodeTableWord 24 0 = some (.tpSelect 0) ∧ decodeTableWord 24 0x800000 = some (.tpWrite 0 0)
      ∧ decodeTableWord 16 0 = some (.dacFrame 0) := by decide

theorem test_response_decodes :
    decodeTpRsp 0b110 = { ok := true, count := 2 } ∧ (decodeTpRsp 0b111).writeOk = true
      ∧ (decodeTpRsp 0b101).writeOk = false ∧ (decodeTpRsp 0b010).writeOk = false := by decide

/-- The assembly of section 2.8. -/
theorem test_assembly :
    (asmWr .ctrl 9).map encode = some (.hostOp 0x40000000009) ∧ asmStart.map encode = some (.hostOp 0x40100000001)
      ∧ asmNop.map encode = some (.hostOp 0x40100000000) ∧ (asmWr .hi 2500000).map encode = some (.hostOp 0x403002625A0)
      ∧ (asmWr (.step 0) (-100000)).map encode = some (.hostOp 0x500FFFE7960)
      ∧ (asmRd .status).map encode = some (.hostOp 0x00700000000)
      ∧ asmSetCtrl 1 false false = asmWr .ctrl 1 ∧ asmRdRaw 0x01D = none := by decide

/-! ### The datapath -/

/-- Section 2.1, and FS = 1. -/
theorem test_quantize :
    [-1, 0, 805, 806, 1612, 1250000, 2500000, 3299194, 3299195, 3300000, 3300001].map (quantizeNat 3300000)
      = [0, 0, 0, 1, 2, 1551, 3103, 4094, 4095, 4095, 4095]
      ∧ [0, 1, 2].map (quantizeNat 1) = [0, 4095, 4095] := by decide

/-- Section 2.2. -/
theorem test_phase :
    phaseTheta 20 0x10000000 = 0x40000000 ∧ phasePeriods 20 0x10000000 = 1 ∧ phaseTheta 12345 0x4000 = 0x0C0E4000
      ∧ phaseTheta 0xFFFFFFFFFFFFFFFF 0xFFFFFFFF = 1
      ∧ phasePeriods 0xFFFFFFFFFFFFFFFF 0xFFFFFFFF = 18446744069414584319 := by decide

/-- Section 2.3. -/
theorem test_sin14 :
    [1, 1024, 1165, 2048, 4095, 4096].map (sin14 .lut) = [13, 12539, 14157, 23170, 32767, 32767]
      ∧ [5120, 8192, 9216, 12288, 15360, 16383].map (sin14 .lut) = [30273, 0, -12539, -32767, -12539, -13] := by
  decide

/-- R84's sum of the whole ROM. -/
theorem test_rom_sum : ((List.range 4097).map romQ).sum = 85459469 := by decide +kernel

/-- Section 2.4. -/
theorem test_sine_voltage :
    sineV .lut 0 2500000 0x50000000 = 2404858 ∧ sineV .lut 0 2500000 0xA0000000 = 366107
      ∧ sineV .lut (BitVec.ofInt 32 (-500000)) 4000000 0x12345678 = 2722113
      ∧ sineV .lut 0x80000000 0x7FFFFFFF 0 = -1 ∧ sineV .lut 100 101 0xE0000000 = 100 := by decide

/-- Section 2.5. -/
theorem test_sawtooth_voltage :
    sawV 0 2500000 0x40000000 = 625000 ∧ sawV 2500000 0 0xFFFFFFFF = 0 ∧ sawV 1 0 0x80000000 = 0
      ∧ sawV 0x7FFFFFFF 0x80000000 0xFFFFFFFF = -2147483648
      ∧ sawV (BitVec.ofInt 32 (-500000)) 4000000 0x12345678 = -180001 := by decide

/-! ### One operation -/

/-- Section 2.10: NOW = 100 in the START cycle gives T0 = 101. -/
theorem test_start_accepted :
    (testAfter (exec (.start 0) (testP1 100 .stopped testGoodPins))).map
      (fun t => (t.t0, t.fsm, t.status)) = some (101, .pSample, 1) := by decide

/-- Section 2.10: ACQUISITION before MODE, FREQUENCY before PARAMETER, and STEP_LEN = 257 is PARAMETER. -/
theorem test_start_rejected :
    [{ testState .stopped Pins.idle with ctrl := 3 }, testState .stopped testGoodPins,
        { testState .stopped testGoodPins with ftw := 1, stepLen := 257 }].map
      (fun s => (testAfter (exec (.start 0) s)).map State.status) = [some 0x10, some 0x50, some 0x40] := by decide

/-- Section 2.8: a reserved opcode is a NOP. -/
theorem test_nop :
    testAfter (exec (.nop 0 2) (testP1 20 .stopped testGoodPins)) = some (testP1 20 .stopped testGoodPins) := by decide

/-- Section 2.9: reserved bits of CTRL are not stored. -/
theorem test_wr_ctrl :
    (testAfter (exec (.wr 0 0xFFFFFFFF) State.reset)).map (fun t => t.regRead .ctrl) = some 0xF := by decide

/-- Section 2.9: STEP[255] is at offset 0x7FC. -/
theorem test_wr_step :
    (testAfter (exec (.wr 0x1FF 42) State.reset)).map (fun t => (t.table, t.regRead (regAt 256 0x7FC)))
      = some ([(255, 42)], 42) := by decide

/-- Program P5: STATUS after a WRITE failed with COUNT = 1. -/
theorem test_rd_status :
    (testAfter (exec (.rd 7 0) { State.reset with err := .transportWrite, errCount := 1 })).map (fun t => t.out.rdata)
      = some (some 0x130) := by decide

/-- Section 2.9: offsets 0x02C and 0x800 are reserved. -/
theorem test_rd_reserved :
    (testAfter (exec (.rd 0x00B 0) (testP1 6 .pSample testGoodPins))).map (fun t => t.out.rdata) = some (some 0)
      ∧ (testAfter (exec (.rd 0x200 0) State.reset)).map (fun t => t.out.rdata) = some (some 0) := by decide

/-- Program P3: at NOW = 15 the hold goes on, at NOW = 16 entry 1 is issued. -/
theorem test_mode_step :
    testAfter (exec .modeStep (testP3 15 0 Pins.idle)) = some (testP3 15 0 Pins.idle)
      ∧ (testAfter (exec .modeStep (testP3 16 0 Pins.idle))).map (fun t => (t.idx, t.es, t.code, t.fsm, t.cyc))
        = some (1, 16, 2048, .selReq, 0) := by decide

/-- Program P3: the end of a pass wraps to entry 0, clamped. -/
theorem test_mode_step_wraps :
    (testAfter (exec .modeStep (testP3 16 2 Pins.idle))).map (fun t => (t.idx, t.es, t.code, t.fsm, t.cyc))
      = some (0, 16, 0, .selReq, 1) := by decide

/-- Program P1, the sample at E = 5. -/
theorem test_mode_sine :
    (testAfter (exec .modeSine (testP1 11 .pSample Pins.idle))).map
      (fun t => (t.code, t.fsm, t.cyc, t.out.dbgValid, t.out.dbgVolt)) = some (2984, .selReq, 0, true, 2404858) := by
  decide

/-- Program P1, the stop at E = 20. -/
theorem test_mode_sine_stops :
    (testAfter (exec .modeSine (testP1 26 .pSample Pins.idle))).map (fun t => (t.status, t.cyc, t.out.dbgValid))
      = some (2, 1, false) := by decide

/-- Program P2, the sample at E = 30. -/
theorem test_mode_sawtooth :
    (testAfter (exec .modeSawtooth { testP1 36 .pSample Pins.idle with
      ctrl := 6, lo := 3000000, hi := 500000, ftw := 0x08000000 })).map (fun t => (t.code, t.fsm, t.out.dbgValid))
      = some (814, .selReq, false) := by decide

/-- Section 2.10: MODE = 3 is refused before FTW is checked. -/
theorem test_mode_reserved :
    (testAfter (exec .modeReserved { testState .stopped testGoodPins with ctrl := 3 })).map State.status
      = some 0x60 := by decide

/-- Program P2: the SELECT of the high address is 0x61_0000. -/
theorem test_tp_select :
    (testAfter (exec (.tpSelect 0x61) (testState .selReq testGoodPins))).map (fun t => (t.requests, t.fsm))
      = some ([0x610000], .selWait) := by decide

/-- Program P6: a SELECT that fails. -/
theorem test_tp_select_fails :
    (testAfter (exec (.tpSelect 0x60) (testState .selWait { testGoodPins with tpRsp := ⟨false, 0⟩ }))).map State.status
      = some 0x20 := by decide

/-- Program P1: the first WRITE is 0xE0_060F. -/
theorem test_tp_write :
    (testAfter (exec (.tpWrite 0x60 0x60F) (testP1 9 .wrReq testGoodPins))).map (fun t => (t.requests, t.fsm))
      = some ([0xE0060F], .wrWait) := by decide

/-- Program P5: a WRITE of which one byte was accepted. -/
theorem test_tp_write_fails :
    (testAfter (exec (.tpWrite 0x60 2984) (testP1 15 .wrWait { testGoodPins with tpRsp := ⟨true, 1⟩ }))).map
      (fun t => (t.status, t.lastCode)) = some (0x130, 0) := by decide

/-- Section 2.8 and X9. -/
theorem test_dac_frame :
    (testAfter (exec (.dacFrame 0xABC) State.reset)).map (fun t => t.wire) = some [0x0A, 0xBC] := by decide

/-! ### One cycle -/

/-- Program P6, cycle 6: the write of HI is dropped while the SELECT transfers. -/
theorem test_step_drops_writes :
    (testAfter (step { testState .selReq { testAccess 0x40300000007 with tpReqReady := true } with now := 6 })).map
      (fun t => (t.hi, t.fsm, t.now, t.requests)) = some (0, .selWait, 7, [0x600000]) := by decide

/-- A WRITE hands its frame over in the cycle in which it transfers (R48, R74). -/
theorem test_step_transfers_the_frame :
    (testAfter (step { testState .wrReq testGoodPins with code := 0xABC })).map (fun t => (t.wire, t.requests, t.fsm))
      = some ([0x0A, 0xBC], [0xE00ABC], .wrWait) := by decide

/-- R98: a START in the first cycle after reset is rejected with FREQUENCY. -/
theorem test_step_from_reset :
    (testAfter (step (State.reset.withPins { testAccess 0x40100000001 with tpAvail := true }))).map State.status
      = some 0x50 := by decide

/-! ### Witnesses: states and operands that meet the hypotheses of the statements, each clause at the ends of its range -/

theorem witness_ResetCycleLoadsTheResetValues :
    (testP1 20 .selReq { testGoodPins with rst := true }).pins.rst = true := by decide

theorem witness_NowAdvancesInEveryCycle : (testP1 20 .selReq testGoodPins).pins.rst = false := by decide

theorem witness_ReadReturnsTheRegister :
    ∀ a ∈ [0x00B, 0x0FF, 0x200, 0x3FF],
      (0x00B ≤ BitVec.toNat (w := 10) a ∧ BitVec.toNat a < 0x100)
        ∨ 0x100 + State.reset.par.stepDepth ≤ BitVec.toNat a := by decide

/-- Entries 0 and 255; entry 0 written and not written. -/
theorem witness_ReadOfStepEntry :
    (0 < State.reset.par.stepDepth ∧ (0x100 : BitVec 10).toNat = 0x100 + 0)
      ∧ (255 < State.reset.par.stepDepth ∧ (0x1FF : BitVec 10).toNat = 0x100 + 255)
      ∧ (testP3 15 0 Pins.idle).table.read 0 = some (BitVec.ofInt 32 (-100000))
      ∧ State.reset.table.read 0 = none := by decide

theorem witness_WriteStoresWhileStopped :
    State.reset.fsm = .stopped
      ∧ (0 < State.reset.par.stepDepth ∧ (0x100 : BitVec 10).toNat = 0x100 + 0)
      ∧ (255 < State.reset.par.stepDepth ∧ (0x1FF : BitVec 10).toNat = 0x100 + 255)
      ∧ ∀ a ∈ [0x007, 0x00A, 0x0FF, 0x200, 0x3FF],
        0x007 ≤ BitVec.toNat (w := 10) a
          ∧ (BitVec.toNat a < 0x100 ∨ 0x100 + State.reset.par.stepDepth ≤ BitVec.toNat a) := by decide

theorem witness_WriteIsIgnoredDuringARun :
    (testState .selReq (testAccess 0x40300000007)).fsm ≠ .stopped ∧ (0x3FF : BitVec 10) ≠ 0x001
      ∧ (testState .selReq (testAccess 0x40300000007)).pins.hpWe = true
      ∧ (testState .selReq (testAccess 0x40300000007)).pins.hpAddr ≠ 0x001 ∧ State.reset.fsm = .stopped := by decide

theorem witness_WriteToCmdIsACommand :
    (0x00000001 : Word).toNat % 256 = 1 ∧ (0xFFFFFF01 : Word).toNat % 256 = 1 ∧ (0x00000000 : Word).toNat % 256 ≠ 1
      ∧ (0xFFFFFFFF : Word).toNat % 256 ≠ 1 := by decide

theorem witness_NopChangesNothing : (0x00000002 : Word).toNat % 256 ≠ 1 := by decide

theorem witness_WrittenRegisterReadsBack :
    State.reset.fsm = .stopped
      ∧ (∀ a ∈ [0x000, 0x006, 0x002, 0x005, 0x100, 0x1FF], ∃ t, exec (.wr a 7) State.reset = .next t)
      ∧ (∀ a ∈ [0x002, 0x005], 0x002 ≤ BitVec.toNat (w := 10) a ∧ BitVec.toNat a ≤ 0x005)
      ∧ (∀ a ∈ [0x100, 0x1FF],
        0x100 ≤ BitVec.toNat (w := 10) a ∧ BitVec.toNat a < 0x100 + State.reset.par.stepDepth)
      ∧ 0x100 + 254 ≠ (0x1FF : BitVec 10).toNat ∧ 0x100 + 1 ≠ (0x100 : BitVec 10).toNat :=
  ⟨rfl, fun _ _ => ⟨_, rfl⟩, by decide, by decide, by decide, by decide⟩

theorem witness_WriteStoresOneEntry :
    (∃ t, exec (.wr 0x1FF 7) State.reset = .next t) ∧ regOf State.reset.par.stepDepth 0x100 = .step 0
      ∧ regOf State.reset.par.stepDepth 0x1FF = .step 255 ∧ State.reset.fsm = .stopped
      ∧ (∀ i, regOf State.reset.par.stepDepth 0x0FF ≠ .step i) ∧ (∀ i, regOf State.reset.par.stepDepth 0x200 ≠ .step i)
      ∧ (testState .sHold Pins.idle).fsm ≠ .stopped := by
  refine ⟨⟨_, rfl⟩, by decide, by decide, by decide, ?_, ?_, by decide⟩ <;>
    · intro i
      rw [show regOf State.reset.par.stepDepth _ = Reg.reserved by decide]
      exact Reg.noConfusion

/-- Periodic mode with STEP_LEN = 0, and step mode with STEP_LEN at both ends. -/
theorem witness_AcceptedStartBeginsARun :
    (∀ s ∈ [testP1 5 .stopped testGoodPins,
        { testP1 5 .stopped testGoodPins with ctrl := 0, stepLen := 1 },
        { testP1 5 .stopped testGoodPins with ctrl := 0, stepLen := 256 }],
      s.fsm = .stopped ∧ s.pins.tpAvail = true ∧ s.ctrl.extractLsb' 0 2 ≠ 3 ∧ s.ftw ≠ 0
        ∧ (s.ctrl.extractLsb' 0 2 = 0 → 1 ≤ s.stepLen.toNat ∧ s.stepLen.toNat ≤ s.par.stepDepth)) := by decide

theorem witness_RejectedStartRecordsTheFirstError_acquisition :
    State.reset.fsm = .stopped ∧ State.reset.pins.tpAvail = false := by decide

theorem witness_RejectedStartRecordsTheFirstError_mode :
    let s := { testState .stopped testGoodPins with ctrl := 3 }
    s.fsm = .stopped ∧ s.pins.tpAvail = true ∧ s.ctrl.extractLsb' 0 2 = 3 := by decide

theorem witness_RejectedStartRecordsTheFirstError_frequency :
    let s := testState .stopped testGoodPins
    s.fsm = .stopped ∧ s.pins.tpAvail = true ∧ s.ctrl.extractLsb' 0 2 ≠ 3 ∧ s.ftw = 0 := by decide

theorem witness_RejectedStartRecordsTheFirstError_parameter :
    ∀ s ∈ [{ testState .stopped testGoodPins with ftw := 1 },
        { testState .stopped testGoodPins with ftw := 1, stepLen := 257 }],
      s.fsm = .stopped ∧ s.pins.tpAvail = true ∧ s.ctrl.extractLsb' 0 2 = 0 ∧ s.ftw ≠ 0
        ∧ (s.stepLen.toNat = 0 ∨ s.par.stepDepth < s.stepLen.toNat) := by decide

theorem witness_StartDuringARunIsIgnored : (testP1 20 .wrWait testGoodPins).fsm ≠ .stopped := by decide

theorem witness_StartRunsTheSelectedMode :
    let s := testP1 5 .stopped testGoodPins
    s.fsm = .stopped ∧ s.pins.tpAvail = true ∧ decode (.ctrlMode (s.ctrl.extractLsb' 0 2)) = .ok .modeSine := by decide

theorem witness_ReservedModeIsRejected : State.reset.fsm = .stopped := by decide

/-- REPEAT = 1 with n = 0, and REPEAT = 0 with n = 1. -/
theorem witness_SineSampleIsIssued :
    ∀ s ∈ [testP1 11 .pSample Pins.idle, { testP1 26 .pSample Pins.idle with repeatN := 0 }],
      s.fsm = .pSample
        ∧ (s.repeatN.toNat = 0 ∨ (s.now - s.t0).toNat * s.ftw.toNat / 2 ^ 32 < s.repeatN.toNat) := by decide

theorem witness_SawtoothSampleIsIssued :
    ∀ s ∈ [testP1 21 .pSample Pins.idle, { testP1 26 .pSample Pins.idle with repeatN := 0 }],
      s.fsm = .pSample
        ∧ (s.repeatN.toNat = 0 ∨ (s.now - s.t0).toNat * s.ftw.toNat / 2 ^ 32 < s.repeatN.toNat) := by decide

/-- The count just reached: REPEAT = 1 and n = 1. -/
theorem witness_PeriodicRunStopsAtTheRepeatCount :
    let s := testP1 26 .pSample Pins.idle
    s.fsm = .pSample ∧ 0 < s.repeatN.toNat
      ∧ s.repeatN.toNat ≤ (s.now - s.t0).toNat * s.ftw.toNat / 2 ^ 32 := by decide

theorem witness_FirstStepEntryIsIssued :
    let s := { testP3 8 0 Pins.idle with fsm := .sEntry }
    s.fsm = .sEntry ∧ s.table.read s.idx.toNat = some (BitVec.ofInt 32 (-100000))
      ∧ { s with table := [] }.table.read s.idx.toNat = none := by decide

/-- The hold one tick before its end and at its end, in the middle of the sequence, at the end of a pass, and at the end
of the last pass; entries written and not written. -/
theorem witness_HoldKeepsAdvancesWrapsOrStops :
    let keeps := testP3 15 0 Pins.idle
    let next := testP3 16 0 Pins.idle
    let last := testP3 16 2 Pins.idle
    (keeps.fsm = .sHold ∧ (keeps.now - keeps.es).toNat * keeps.ftw.toNat < 2 ^ 32)
      ∧ (next.fsm = .sHold ∧ 2 ^ 32 ≤ (next.now - next.es).toNat * next.ftw.toNat
        ∧ next.idx.toNat + 1 ≠ next.stepLen.toNat ∧ next.table.read (next.idx.toNat + 1) = some 1650000
        ∧ { next with table := [] }.table.read (next.idx.toNat + 1) = none)
      ∧ (last.fsm = .sHold ∧ 2 ^ 32 ≤ (last.now - last.es).toNat * last.ftw.toNat
        ∧ last.idx.toNat + 1 = last.stepLen.toNat ∧ last.cyc.toNat + 1 < last.repeatN.toNat
        ∧ last.table.read 0 = some (BitVec.ofInt 32 (-100000)) ∧ { last with table := [] }.table.read 0 = none)
      ∧ (0 < last.repeatN.toNat ∧ last.repeatN.toNat ≤ { last with cyc := 1 }.cyc.toNat + 1) := by decide

theorem witness_ModesKeepConfigurationAndLastCode :
    (∃ t, exec .modeStep (testP3 16 0 Pins.idle) = .next t) ∧ (testP3 16 0 Pins.idle).fsm ≠ .stopped
      ∧ ((testAfter (exec .modeStep (testP3 16 0 Pins.idle))).map State.fsm ≠ some .stopped) :=
  ⟨⟨_, rfl⟩, by decide, by decide⟩

theorem witness_RequestIsPresentedUntilTaken :
    (testState .selReq testGoodPins).fsm = .selReq ∧ (testState .selReq testGoodPins).pins.tpReqReady = true
      ∧ (testState .selReq Pins.idle).pins.tpReqReady = false ∧ (testState .wrReq testGoodPins).fsm = .wrReq := by decide

theorem witness_SelectResponseIsTaken :
    (testState .selWait Pins.idle).fsm = .selWait ∧ (testState .selWait Pins.idle).pins.tpRspValid = false
      ∧ (testState .selWait testGoodPins).pins.tpRspValid = true
      ∧ (testState .selWait testGoodPins).pins.tpRsp.ok = true
      ∧ (testState .selWait { testGoodPins with tpRsp := ⟨false, 2⟩ }).pins.tpRsp.ok = false := by decide

/-- COUNT = 1 and OK = 0 with COUNT = 2 fail, COUNT = 2 and 3 succeed; step mode with LEN = 1 and 2, and a periodic
mode. -/
theorem witness_WriteResponseIsTaken :
    (testState .wrWait Pins.idle).fsm = .wrWait ∧ (testState .wrWait Pins.idle).pins.tpRspValid = false
      ∧ (∀ r ∈ [(⟨true, 1⟩ : TpRsp), ⟨false, 2⟩], r.ok = false ∨ r.count.toNat < 2)
      ∧ (∀ r ∈ [(⟨true, 2⟩ : TpRsp), ⟨true, 3⟩], r.ok = true ∧ 2 ≤ r.count.toNat)
      ∧ (testP1 15 .wrWait testGoodPins).ctrl.extractLsb' 0 2 ≠ 0
      ∧ { testP3 15 0 testGoodPins with stepLen := 1 }.stepLen.toNat = 1
      ∧ { testP3 15 0 testGoodPins with stepLen := 2 }.stepLen.toNat ≠ 1
      ∧ (testP3 15 0 testGoodPins).ctrl.extractLsb' 0 2 = 0 := by decide

theorem witness_OperationsOutsideTheirStatesChangeNothing :
    (testP1 20 .wrWait testGoodPins).fsm = .wrWait ∧ (∃ i, decode (.ctrlMode 1) = .ok i)
      ∧ (testP1 20 .wrWait testGoodPins).fsm ≠ .selReq ∧ (testP1 20 .wrWait testGoodPins).fsm ≠ .selWait
      ∧ (testP1 20 .selWait testGoodPins).fsm ≠ .wrReq ∧ (testP1 20 .selWait testGoodPins).fsm ≠ .wrWait :=
  ⟨rfl, ⟨_, rfl⟩, by decide, by decide, by decide, by decide⟩

theorem witness_StepRunsTheDecodedHostOperation :
    let s := testState .stopped (testAccess 0x403002625A0)
    s.pins.rst = false ∧ s.pins.hpValid = true
      ∧ decode (.hostOp (BitVec.ofBool s.pins.hpWe ++ s.pins.hpAddr ++ s.pins.hpWdata)) = .ok (.wr 3 2500000)
      ∧ ∃ t u, exec (.wr 3 2500000) s.beginCycle = .next t ∧ runOps s.loopOps t = .next u :=
  ⟨by decide, by decide, by decide, _, _, rfl, rfl⟩

theorem witness_StepRunsTheControllersOperation :
    (∀ f, (testState f testGoodPins).pins.rst = false ∧ (testState f testGoodPins).pins.hpValid = false)
      ∧ decode (.ctrlMode ((testP1 6 .pSample testGoodPins).ctrl.extractLsb' 0 2)) = .ok .modeSine
      ∧ (∃ t, exec .modeSine (testP1 6 .pSample testGoodPins).beginCycle = .next t)
      ∧ decode (.tpReq ((0 : BitVec 1) ++ (testState .selReq testGoodPins).busAddr ++ (0 : BitVec 16)))
        = .ok (.tpSelect 0x60)
      ∧ (∃ t, exec (.tpSelect 0x60) (testState .selReq testGoodPins).beginCycle = .next t)
      ∧ decode (.tpReq ((1 : BitVec 1) ++ (testState .wrReq Pins.idle).busAddr
          ++ (testState .wrReq Pins.idle).code.setWidth 16)) = .ok (.tpWrite 0x60 0)
      ∧ (testState .wrReq Pins.idle).pins.tpReqReady = false
      ∧ (∃ t u, exec (.tpWrite 0x60 0) (testState .wrReq testGoodPins).beginCycle = .next t
        ∧ exec (.dacFrame 0) t = .next u)
      ∧ decode (.frame16 ((testState .wrReq testGoodPins).code.setWidth 16)) = .ok (.dacFrame 0)
      ∧ (testState .wrReq testGoodPins).pins.tpReqReady = true :=
  ⟨fun _ => ⟨rfl, rfl⟩, by decide, ⟨_, rfl⟩, by decide, ⟨_, rfl⟩, by decide, by decide, ⟨_, _, rfl, rfl⟩, by decide,
    by decide⟩

theorem witness_RequestPinsFollowTheFsm :
    (testState .wrReq testGoodPins).pins.rst = false ∧ ∃ t, step (testState .wrReq testGoodPins) = .next t :=
  ⟨by decide, _, step_eq _⟩

theorem witness_DiagnosticPortReportsIssuesOnly :
    (testP1 6 .pSample Pins.idle).pins.rst = false ∧ ∃ t, step (testP1 6 .pSample Pins.idle) = .next t :=
  ⟨by decide, _, step_eq _⟩

theorem witness_ReadDataAreThoseOfTheStartOfTheCycle :
    (testP1 6 .pSample (testAccess 0x00700000000)).pins.rst = false
      ∧ ∃ t, step (testP1 6 .pSample (testAccess 0x00700000000)) = .next t :=
  ⟨by decide, _, step_eq _⟩

theorem witness_RunKeepsItsConfiguration :
    (testP1 6 .pSample (testAccess 0x40300000007)).fsm ≠ .stopped
      ∧ (testP1 6 .pSample (testAccess 0x40300000007)).pins.rst = false
      ∧ ∃ t, step (testP1 6 .pSample (testAccess 0x40300000007)) = .next t :=
  ⟨by decide, by decide, _, step_eq _⟩

/-- A write of entry 255 changes it. -/
theorem witness_StepEntryChangesOnlyByItsWrite :
    let s := testState .stopped (testAccess 0x5FF0000002A)
    (testAfter (step s)).map (fun t => t.table.read 255) ≠ some (s.table.read 255) := by decide

theorem witness_LastCodeIsTheLastSuccessfulWrite :
    (testP1 10 .wrWait testGoodPins).pins.rst = false ∧ ∃ t, step (testP1 10 .wrWait testGoodPins) = .next t :=
  ⟨by decide, _, step_eq _⟩

/-- A START leaves STOPPED, with good pins in the two cycles after the next: that of program P1, and in step mode with
STEP_LEN at both ends. -/
theorem witness_OnlyAnAcceptedStartLeavesStopped :
    ∀ s ∈ [testP1 5 .stopped Pins.idle, { testP1 5 .stopped Pins.idle with ctrl := 0, stepLen := 1 },
        { testP1 5 .stopped Pins.idle with ctrl := 0, stepLen := 256 }],
      let start := { s with
        inputs := [{ testAccess 0x40100000001 with tpAvail := true }, testGoodPins, testGoodPins] }
      start.fsm = .stopped
        ∧ (testAfter (step start)).map (fun t => (decide (t.fsm ≠ .stopped), t.inputs.map Pins.rst))
          = some (true, [false, false]) := by decide

theorem witness_WaitingChangesOnlyNow :
    ∀ f ∈ [Fsm.selWait, .wrWait, .selReq, .wrReq],
      (testState f Pins.idle).pins.rst = false ∧ (testState f Pins.idle).pins.hpValid = false
        ∧ (testState f Pins.idle).pins.tpRspValid = false ∧ (testState f Pins.idle).pins.tpReqReady = false := by decide

theorem witness_UnsolicitedResponseIsIgnored :
    (testState .selReq testGoodPins).fsm ≠ .selWait ∧ (testState .selReq testGoodPins).fsm ≠ .wrWait := by decide

theorem witness_AvailabilityIsSampledByStartOnly :
    (testState .selReq testGoodPins).fsm ≠ .stopped ∧ (testState .stopped testGoodPins).pins.hpValid = false
      ∧ (testState .stopped (testAccess 0x00700000000)).pins.hpWe = false
      ∧ (testState .stopped (testAccess 0x403002625A0)).pins.hpAddr ≠ 0x001
      ∧ (testState .stopped { testAccess 0x40100000001 with rst := true }).pins.rst = true := by decide

/-- Writes to CMD that are no START: opcodes 0x00, 0x02 and 0xFF. -/
theorem witness_AvailabilityIsSampledByStartOnly_nop :
    [0x40100000000, 0x40100000002, 0x401000000FF].map
        (fun w => (testState .stopped (testAccess w)).pins.hpWdata.toNat % 256) = [0, 2, 255] := by decide

theorem witness_DecodeOfEncode :
    (Instr.nop 0 0).wf = true ∧ (Instr.nop 0xFFFFFF 0xFF).wf = true ∧ (Instr.wr 0 0).wf = true
      ∧ (Instr.wr 0x3FF 0xFFFFFFFF).wf = true := by decide

theorem witness_EncodeOfDecode : ∃ i, decode (.tpReq 0xE00ABC) = .ok i := ⟨.tpWrite 0x60 0xABC, by decide⟩

/-- P_FULL_SCALE_UV at its smallest value, with each clause's voltages at their ends. -/
theorem witness_QuantizerRangeAndClamps :
    1 ≤ 1 ∧ (-1 : Int) < 0 ∧ ((1 : Nat) : Int) < 2 ∧ (0 ≤ (0 : Int) ∧ (0 : Int) < (1 : Nat)) := by decide

theorem witness_QuantizerIsMonotoneWithItsThresholds : 1 ≤ 1 ∧ (805 : Int) ≤ 806 ∧ 0 ≤ 4094 ∧ 4094 ≤ 4094 := by decide

/-- A clock of 16 Hz; and the time and the frequency, by the hardware's own clock, of any E and FTW. -/
theorem witness_PhaseIsTheFractionOfThePeriod :
    (0 : ℝ) < 16 ∧ ∀ (e : Ticks) (ftw : Word), ∃ t f : ℝ, IsSeconds e t ∧ IsFrequency ftw f :=
  ⟨by norm_num, fun e ftw => ⟨e.toNat / Config.tickHz, ftw.toNat * Config.tickHz / 2 ^ 32,
    div_mul_cancel₀ _ tickHz_pos.ne', div_mul_cancel₀ _ (by norm_num)⟩⟩

theorem witness_SineTableRangeAndSymmetry :
    (0 < 1 ∧ 1 < 8192) ∧ (0 < 8191 ∧ 8191 < 8192) ∧ 0 < 8192 ∧ (0 ≤ 4096 ∧ 4096 ≤ 4096) ∧ (0 < 4096 ∧ 4095 < 4096)
      ∧ (4096 : BitVec 14).toNat ≤ 4096 := by decide

theorem witness_SawtoothVoltageRampsFromLoToHi :
    (0 : Word).toInt < (2500000 : Word).toInt ∧ (0x80000000 : Word).toInt < (0x7FFFFFFF : Word).toInt
      ∧ (5 : Word) = 5 := by decide

theorem witness_SawtoothFollowsTheSourceFormula : (0 : ℝ) < 16 ∧ (0x10000000 : Word) ≠ 0 := ⟨by norm_num, by decide⟩

/-- The first sample of a run: SIN14(0) is the exact sine of 0. -/
theorem witness_SineFollowsTheSourceFormula :
    (0 : ℝ) < 16 ∧
    |(sin14 .lut (sineIndex (phaseTheta 0 1)) : ℝ)
        - 32767 * Real.sin (2 * Real.pi * ((sineIndex (phaseTheta 0 1)).toNat : ℝ) / 16384)| ≤ 1 / 2 := by
  rw [show sineIndex (phaseTheta 0 1) = 0 by decide, show sin14 .lut 0 = 0 by decide]
  norm_num

/-- Program P3 in S_HOLD of entry 1, in its first pass. -/
theorem witness_EveryCycleKeepsTheInvariant :
    Inv (testP3 20 1 testGoodPins) ∧ ∃ t, step (testP3 20 1 testGoodPins) = .next t := by
  refine ⟨?_, _, step_eq _⟩
  constructor
  · decide
  · decide
  · intro i w h
    have : i = 0 ∨ i = 1 ∨ i = 2 := by
      simp only [testP3, List.mem_cons, Prod.mk.injEq, List.not_mem_nil, or_false] at h
      omega
    show i < 256
    omega
  all_goals decide

/-- A SELECT of 0x60 awaits its answer. -/
theorem witness_EveryWriteFollowsItsSelect :
    BusOrdered { testState .selWait testGoodPins with requests := [0x600000] }
      ∧ ∃ t, step { testState .selWait testGoodPins with requests := [0x600000] } = .next t :=
  ⟨⟨by decide, fun _ => by decide⟩, _, step_eq _⟩

theorem witness_RequestsNeverOverlap :
    let s := { testState .selWait testGoodPins with outstanding := 1 }
    OneRequest s ∧ KeepsT2 s ∧ ResetHandsOver s ∧ (∃ t, step s = .next t)
      ∧ OneRequest (testState .selReq Pins.idle) ∧ KeepsT2 (testState .selReq Pins.idle)
      ∧ ResetHandsOver (testState .selReq Pins.idle) :=
  ⟨⟨fun _ => rfl, fun h _ => absurd rfl h⟩, fun _ => Nat.one_pos, by unfold ResetHandsOver; decide, ⟨_, step_eq _⟩,
    ⟨by decide, fun _ _ => rfl⟩, by unfold KeepsT2; decide, by unfold ResetHandsOver; decide⟩

theorem witness_PeriodicIterationLastsFiveTicks :
    let s := { testP1 6 .pSample Pins.idle with inputs := List.replicate 5 testGoodPins }
    s.inputs = testGoodPins :: testGoodPins :: testGoodPins :: testGoodPins :: testGoodPins :: []
      ∧ QuietHost testGoodPins ∧ TakesRequest testGoodPins ∧ AnswersOk testGoodPins ∧ s.fsm = .pSample
      ∧ (s.mode = 1 ∨ s.mode = 2)
      ∧ (s.repeatN.toNat = 0 ∨ phasePeriods s.elapsed s.ftw < s.repeatN.toNat) :=
  ⟨rfl, ⟨rfl, rfl⟩, ⟨⟨rfl, rfl⟩, rfl⟩, ⟨⟨rfl, rfl⟩, rfl, rfl⟩, rfl, .inl (by decide), .inr (by decide)⟩

/-- Program P3, NOW = 13: three more cycles of S_HOLD. -/
theorem witness_StepEntryIsHeldForItsPeriod :
    let s := testP3 13 0 Pins.idle
    s.fsm = .sHold ∧ s.mode = 0 ∧ (∀ k, k < 3 → QuietHost ((s.inputs.drop k).headD Pins.idle))
      ∧ s.held.toNat + 3 < 2 ^ 64 ∧ (s.held.toNat + 3) * s.ftw.toNat < 2 ^ 32 + s.ftw.toNat := by
  refine ⟨by decide, by decide, fun k hk => ?_, by decide, by decide⟩
  have : k = 0 ∨ k = 1 ∨ k = 2 := by omega
  rcases this with rfl | rfl | rfl <;> exact ⟨rfl, rfl⟩

/-- A read and a NOP are presented while stopped. -/
theorem witness_StoppedStaysQuietUntilAStart :
    let s := { State.reset with inputs := [testAccess 0x00700000000, testAccess 0x40100000002] }
    s.fsm = .stopped
      ∧ ∀ p ∈ s.inputs, p.rst = false
        ∧ ¬(p.hpValid = true ∧ p.hpWe = true ∧ p.hpAddr = 0x001 ∧ p.hpWdata.toNat % 256 = 1) := by decide

/-- The pins of the standard test harness under WAITSTOP: a read of STATUS every cycle, and a response only where
`answer` says so. -/
def testHarness (answer : Bool) : Pins :=
  { testAccess 0x00700000000 with
    tpAvail := true, tpReqReady := true, tpRspValid := answer, tpRsp := { ok := true, count := 2 } }

/-- Two entries, one pass, a two-tick period, under the harness, which answers in the WAIT cycles alone: eleven
cycles. -/
def testPass : State :=
  { testP3 8 0 Pins.idle with
    fsm := .sEntry, ftw := 0x80000000, repeatN := 1, stepLen := 2,
    inputs := [false, false, true, false, true, false, false, true, false, true, false].map testHarness }

/-- A cycle that the harness serves and in which the controller moves on. -/
def testServed (t : State) : Bool :=
  decide (t.pins.rst = false ∧ t.pins.tpRsp = { ok := true, count := 2 }
    ∧ (testAfter (step t)).map State.fsm ≠ some t.fsm)

theorem testServed_sound {t : State} (h : testServed t = true) : ServedCycle t := by
  obtain ⟨hr, hp, hf⟩ := of_decide_eq_true h
  refine ⟨hr, fun _ _ => by rw [hp], fun _ _ => by rw [hp]; decide, fun _ => ⟨1, _, run_succ 0 (step_eq t), ?_⟩⟩
  rw [step_eq t] at hf
  exact fun he => hf (congrArg some he)

theorem witness_StepRunWritesEveryEntryOnceAPass_served : ServesTheRun testPass := by
  have served : ∀ n < 11, (testAfter (Host.Core.run core n testPass)).all testServed = true := by decide
  have stops : (testAfter (Host.Core.run core 11 testPass)).map State.fsm = some .stopped := by decide
  intro n t hn hk
  rcases Nat.lt_or_ge n 11 with h | h
  · have := served n h
    rw [hn] at this
    exact testServed_sound this
  · obtain ⟨u, hu⟩ := run_next 11 testPass
    rw [hu] at stops
    exact absurd (Option.some.inj stops) (hk 11 u h hu)

theorem witness_StepRunWritesEveryEntryOnceAPass :
    let s := testPass
    s.fsm = .sEntry ∧ s.mode = 0 ∧ s.idx = 0 ∧ s.cyc = 0
      ∧ s.ftw ≠ 0 ∧ 0 < s.repeatN.toNat ∧ 2 ≤ s.stepLen.toNat ∧ s.stepLen.toNat ≤ 256
      ∧ [(0 : Code), 2048].length = s.stepLen.toNat
      ∧ ∀ i, i < [(0 : Code), 2048].length →
        ∃ w, s.table.read i = some w ∧ [(0 : Code), 2048][i]? = some (quantize s.par.fullScaleUv w.toInt) := by
  refine ⟨rfl, by decide, rfl, rfl, by decide, by decide, by decide, by decide, rfl, fun i hi => ?_⟩
  have : i = 0 ∨ i = 1 := by
    simp only [List.length_cons, List.length_nil] at hi
    omega
  rcases this with rfl | rfl
  · exact ⟨BitVec.ofInt 32 (-100000), by decide, by decide⟩
  · exact ⟨1650000, by decide, by decide⟩

theorem witness_PlacedWordIsRunNext :
    decodeTableWord 48 0x40100000001 = some (.start 0) ∧ decodeTableWord 8 3 = some .modeReserved
      ∧ decodeTableWord 16 0xABC = some (.dacFrame 0xABC) := by decide
end

section

namespace Sys2Proof.Machine

variable {s t : State} {i : Instr}

/-- With an access presented, the cycle's operations begin with the decoded HOSTOP (R33, R42). -/
theorem State.cycleOps_of_access (hv : s.pins.hpValid = true) (hd : decode (.hostOp s.pins.hostWord) = .ok i) :
    s.cycleOps = i :: s.loopOps := by
  have hi : decodeHostOp s.pins.hostWord = i := Except.ok.inj hd
  rw [State.cycleOps, State.hostOps, if_pos hv, hi, List.singleton_append]

/-- Without reset, a cycle is its operations and then the NOW increment (R9, R25). -/
theorem step_of_runOps (hr : s.pins.rst = false) (h : runOps s.cycleOps s.beginCycle = .next t) :
    step s = .next t.endCycle := by
  unfold step
  rw [hr, h]
  rfl

/-- Settles O29: the decoded access heads the cycle's operations, and the controller's operations follow it. -/
theorem stepRunsTheDecodedHostOperation : Obligations.StepRunsTheDecodedHostOperation := by
  intro s t u i hr hv hd hexec hloop
  apply step_of_runOps hr
  rw [State.cycleOps_of_access hv hd, runOps_cons_next hexec, hloop]

end Sys2Proof.Machine

end

section

namespace Sys2Proof.Safety

open Sys2Proof.Machine

variable {s t u : State}

/-! ### The invariant in STOPPED -/

/-- In STOPPED the invariant is about the parameters, the step table and the recorded status alone. -/
theorem Inv.of_stopped (hf : t.fsm = .stopped) (hp : t.par.legal = true) (hw : t.table.wf = true)
    (ht : ∀ i w, (i, w) ∈ t.table → i < t.par.stepDepth) (hd : t.done = true → t.err = .none)
    (hc : t.err ≠ .transportWrite → t.errCount = 0) : Inv t := by
  refine ⟨hp, hw, ht, ?_, ?_, ?_, ?_, ?_, ?_, ?_, ?_, ?_, hd, hc⟩ <;> simp [hf]

/-- A reset leaves STOPPED with the status cleared (R97). -/
theorem Inv.resetEdge (h : Inv s) : Inv s.resetEdge :=
  .of_stopped rfl h.parLegal h.tableSorted h.tableInDepth (fun _ => rfl) fun _ => rfl

/-- The end of a run records no error, or one with its count, whatever was counted in CYC (R78). -/
theorem Inv.stop (h : Inv s) {n : Ticks} {e : ErrKind} {c : BitVec 2} (hc : e ≠ .transportWrite → c = 0) :
    Inv ({ s with cyc := n }.stop e c) :=
  .of_stopped rfl h.parLegal h.tableSorted h.tableInDepth (by simp) hc

/-- A rejected START leaves STOPPED with the error alone (R57). -/
theorem Inv.reject (h : Inv s) (hf : s.fsm = .stopped) (e : ErrKind) : Inv (s.reject e) :=
  .of_stopped hf h.parLegal h.tableSorted h.tableInDepth (by simp) (by simp)

/-- A step entry written below the depth keeps the table canonical and within its depth (R28). -/
theorem Inv.writeStep (h : Inv s) (hf : s.fsm = .stopped) {i : Nat} (hi : i < s.par.stepDepth) (w : Word) :
    Inv { s with table := s.table.write i w } := by
  refine .of_stopped hf h.parLegal (Memory.wf_write _ _ _ h.tableSorted) (fun j x hj => ?_) h.doneNoError h.countOfWrite
  rcases Memory.mem_write hj with ⟨rfl, -⟩ | hj
  · exact hi
  · exact h.tableInDepth j x hj

/-- A register write in STOPPED (R53). -/
theorem Inv.regWrite (h : Inv s) (hf : s.fsm = .stopped) (w : Word) {r : Reg}
    (hr : ∀ i, r = .step i → i < s.par.stepDepth) : Inv (s.regWrite w r) := by
  cases r with
  | step i => exact h.writeStep hf (hr i rfl) w
  | ctrl | lo | hi | ftw | repeatN | stepLen =>
    exact .of_stopped hf h.parLegal h.tableSorted h.tableInDepth h.doneNoError h.countOfWrite
  | cmd | status | cycles | lastCode | stepIdx | reserved => exact h

/-! ### The invariant in a run -/

/-- The FSM of a run may move to P_SAMPLE in a periodic mode, to S_HOLD in a run of several entries, and to every REQ
and WAIT state. -/
theorem Inv.moveTo (h : Inv s) (hr : s.fsm ≠ .stopped) {f : Fsm} (hp : f = .pSample → s.mode ≠ 0) (he : f ≠ .sEntry)
    (hh : f = .sHold → s.mode = 0 ∧ s.stepLen.toNat ≠ 1) : Inv { s with fsm := f } := by
  have hr := State.running_eq_true.mpr hr
  refine { h with
    sampleMode := fun hf => ?_
    stepMode := fun hf => (hh (hf.resolve_left he)).1
    runMode := fun _ => h.runMode hr
    runFtw := fun _ => h.runFtw hr
    runLen := fun _ => h.runLen hr
    periodicIdx := fun _ => h.periodicIdx hr
    entryFirst := fun hf => absurd hf he
    singleEntry := fun _ hm hl => ⟨fun hf => (hh hf).2 hl, (h.singleEntry hr hm hl).2⟩
    runStatus := fun _ => h.runStatus hr }
  have h0 : s.mode ≠ 0 := hp hf
  have h3 : s.mode ≠ 3 := h.runMode hr
  show s.mode = 1 ∨ s.mode = 2
  bv_omega

/-- An issue sets IDX to an entry of the sequence, or leaves it 0 in a periodic mode, and counts no pass of a
single-entry run (R70, R71, R76). -/
theorem Inv.issued (h : Inv s) (hr : s.fsm ≠ .stopped) {i : BitVec 8} {n : Ticks}
    (hi : s.mode = 0 → i.toNat < s.stepLen.toNat) (hn : s.mode = 0 → s.stepLen.toNat = 1 → n = 0)
    (h0 : s.mode ≠ 0 → i = 0) : Inv { s with idx := i, cyc := n, fsm := .selReq } := by
  have hr := State.running_eq_true.mpr hr
  exact { h with
    sampleMode := nofun
    stepMode := nofun
    runMode := fun _ => h.runMode hr
    runFtw := fun _ => h.runFtw hr
    runLen := fun _ hm => ⟨(h.runLen hr hm).1, (h.runLen hr hm).2.1, hi hm⟩
    periodicIdx := fun _ => h0
    entryFirst := nofun
    singleEntry := fun _ hm hl => ⟨nofun, hn hm hl⟩
    runStatus := fun _ => h.runStatus hr }

/-- The issue of a step entry keeps the invariant where it names an entry of the sequence (R71, R76). -/
theorem Inv.issueEntry (h : Inv s) (hr : s.fsm ≠ .stopped) (hm : s.mode = 0) {i : Nat} {n : Ticks}
    (hi : i < s.stepLen.toNat) (hn : s.stepLen.toNat = 1 → n = 0) : Inv ({ s with cyc := n }.issueEntry i) := by
  have hlt : (BitVec.ofNat 8 i).toNat < s.stepLen.toNat := (Nat.mod_le i _).trans_lt hi
  obtain ⟨d, hd⟩ := State.afterStepRead_eq { s with cyc := n } i
  rw [State.issueEntry, hd]
  exact { h.issued hr (fun _ => hlt) (fun _ => hn) (absurd hm) with }

/-! ### START -/

/-- The state an accepted START enters (R56). -/
theorem accept_fsm_cases (s : State) (m : BitVec 2) :
    m = 0 ∧ (s.accept m).fsm = .sEntry ∨ m ≠ 0 ∧ (s.accept m).fsm = .pSample := by
  by_cases hm : m = 0
  · exact .inl ⟨hm, if_pos hm⟩
  · exact .inr ⟨hm, if_neg hm⟩

/-- An accepted START enters P_SAMPLE or S_ENTRY, by the mode, with the status cleared (R56). -/
theorem Inv.accept (h : Inv s) (hs : s.startError = .none) : Inv (s.accept s.mode) := by
  obtain ⟨-, h3, hftw, hlen⟩ := State.startError_none.mp hs
  have hfsm := accept_fsm_cases s s.mode
  refine {
    parLegal := h.parLegal
    tableSorted := h.tableSorted
    tableInDepth := h.tableInDepth
    sampleMode := fun hf => ?_
    stepMode := fun hf => ?_
    runMode := fun _ => h3
    runFtw := fun _ => hftw
    runLen := fun _ hm => ?_
    periodicIdx := fun _ _ => rfl
    entryFirst := fun _ => ⟨rfl, rfl⟩
    singleEntry := fun _ _ _ => ⟨?_, rfl⟩
    runStatus := fun _ => ⟨rfl, rfl, rfl⟩
    doneNoError := fun _ => rfl
    countOfWrite := fun _ => rfl }
  · show s.mode = 1 ∨ s.mode = 2
    rcases hfsm with ⟨-, hE⟩ | ⟨h0, -⟩
    · cases hE.symm.trans hf
    · bv_omega
  · rcases hfsm with ⟨h0, -⟩ | ⟨-, hP⟩
    · exact h0
    · rw [hP] at hf
      exact hf.elim nofun nofun
  · obtain ⟨hpos, hle⟩ := hlen hm
    exact ⟨Nat.pos_of_ne_zero hpos, hle, Nat.pos_of_ne_zero hpos⟩
  · rcases hfsm with ⟨-, hf⟩ | ⟨-, hf⟩ <;> rw [hf] <;> exact nofun

/-- START keeps the invariant: ignored, accepted or rejected (R56, R57, R58). -/
theorem Inv.startCommand (h : Inv s) : Inv s.startCommand := by
  rcases s.startCommand_cases with ⟨-, hs⟩ | ⟨-, hok, hs⟩ | ⟨hf, -, hs⟩ <;> rw [hs]
  · exact h
  · exact h.accept hok
  · exact h.reject hf _

/-! ### The parts of a cycle -/

/-- The host's part of a cycle keeps the invariant. -/
theorem Inv.hostPhase (h : Inv s) : Inv s.hostPhase := by
  have hb : Inv s.beginCycle := { h with }
  rcases s.hostPhase_cases with hs | ⟨-, -, hs⟩ | ⟨-, -, -, -, hs⟩ | ⟨-, -, -, hf, hs⟩ <;> rw [hs]
  · exact hb
  · obtain ⟨d, hd⟩ := s.beginCycle.hostRead_cases s.pins.hpAddr
    rw [hd]
    exact { hb with }
  · exact hb.startCommand
  · exact hb.regWrite hf _ fun i hi => (regOf_eq_step hi).2

/-- P_SAMPLE (R70). -/
theorem Inv.sample (h : Inv s) (hf : s.fsm = .pSample) (m : BitVec 2) : Inv (s.sample m) := by
  have hr : s.fsm ≠ .stopped := by simp [hf]
  have hm : s.mode ≠ 0 := by rcases h.sampleMode hf with hm | hm <;> simp [hm]
  have hi := h.issued hr (n := s.countPeriods.cyc) (absurd · hm) (absurd · hm) (h.periodicIdx (by simp [hf]))
  rcases s.sample_cases m with ⟨-, hs⟩ | ⟨-, hs⟩ <;> rw [hs]
  · exact h.stop fun _ => rfl
  · exact { hi with }

/-- S_ENTRY (R71). -/
theorem Inv.firstEntry (h : Inv s) (hf : s.fsm = .sEntry) : Inv s.firstEntry := by
  have hm := h.stepMode (.inl hf)
  obtain ⟨-, -, hlt⟩ := h.runLen (by simp [hf]) hm
  exact h.issueEntry (by simp [hf]) hm (n := s.cyc) hlt fun _ => (h.entryFirst hf).2

/-- S_HOLD (R76): only a run of several entries holds, so a pass may be counted. -/
theorem Inv.hold (h : Inv s) (hf : s.fsm = .sHold) : Inv s.hold := by
  have hr : s.fsm ≠ .stopped := by simp [hf]
  have hm := h.stepMode (.inr hf)
  have h1 : s.stepLen.toNat ≠ 1 := fun hl => (h.singleEntry (by simp [hf]) hm hl).1 hf
  obtain ⟨hpos, -, hlt⟩ := h.runLen (by simp [hf]) hm
  rcases s.hold_cases with ⟨-, hs⟩ | ⟨-, -, -, hs⟩ | ⟨-, -, -, hs⟩ | ⟨-, hlast, hs⟩ <;> rw [hs]
  · exact h
  · exact h.stop fun _ => rfl
  · exact h.issueEntry hr hm hpos (absurd · h1)
  · have hne : s.idx.toNat + 1 ≠ s.stepLen.toNat := mt State.lastEntry_iff.mpr (by simp [hlast])
    exact h.issueEntry hr hm (n := s.cyc) (by omega) (absurd · h1)

/-- A REQ state presents its request, and the FSM may move to the WAIT state `f` (R72, R74). -/
theorem Inv.present (h : Inv s) (hr : s.fsm ≠ .stopped) (op : Bool) (a : BusAddr) (d : BitVec 16) {f : Fsm}
    (hf : f = .selWait ∨ f = .wrWait) : Inv (s.present op a d f) := by
  rcases s.present_cases op a d f with ⟨-, hs⟩ | ⟨-, hs⟩ <;> rw [hs]
  · have hw : Inv { s with fsm := f } := by rcases hf with rfl | rfl <;> exact h.moveTo hr nofun nofun nofun
    exact { hw with }
  · exact { h with }

/-- SEL_WAIT (R73). -/
theorem Inv.selectWait (h : Inv s) (hr : s.fsm ≠ .stopped) : Inv s.selectWait := by
  rcases s.selectWait_cases with ⟨-, hs⟩ | ⟨-, -, hs⟩ | ⟨-, -, hs⟩ <;> rw [hs]
  · exact h
  · exact h.moveTo hr nofun nofun nofun
  · exact h.stop fun _ => rfl

/-- A successful WRITE (R75, R77). -/
theorem Inv.writeDone (h : Inv s) (hr : s.fsm ≠ .stopped) : Inv s.writeDone := by
  have hl : Inv { s with lastCode := s.code } := { h with }
  rcases s.writeDone_cases with ⟨hm, hs⟩ | ⟨-, -, hs⟩ | ⟨hm, h1, hs⟩ <;> rw [hs]
  · exact hl.moveTo hr (fun _ => hm) nofun nofun
  · exact hl.stop fun _ => rfl
  · exact hl.moveTo hr nofun nofun fun _ => ⟨hm, h1⟩

/-- WR_WAIT (R75): only the failed WRITE records a count. -/
theorem Inv.writeWait (h : Inv s) (hr : s.fsm ≠ .stopped) : Inv s.writeWait := by
  rcases s.writeWait_cases with ⟨-, hs⟩ | ⟨-, -, hs⟩ | ⟨-, -, hs⟩ <;> rw [hs]
  · exact h
  · exact h.writeDone hr
  · exact h.stop (absurd rfl)

/-- The controller's part of a cycle keeps the invariant, whatever its FSM state. -/
theorem Inv.loopPhase (h : Inv u) (hu : s.fsm ≠ .stopped → u.fsm = s.fsm) : Inv (s.loopPhase u) := by
  unfold State.loopPhase
  cases hf : s.fsm with
  | stopped => exact h
  | pSample => exact h.sample (by simp [hu, hf]) _
  | sEntry => exact h.firstEntry (by simp [hu, hf])
  | sHold => exact h.hold (by simp [hu, hf])
  | selReq => exact h.present (by simp [hu, hf]) _ _ _ (.inl rfl)
  | selWait => exact h.selectWait (by simp [hu, hf])
  | wrReq =>
    have hw : Inv (u.present true s.busAddr (frame16 s.code) .wrWait) := h.present (by simp [hu, hf]) _ _ _ (.inr rfl)
    dsimp only
    split
    · exact { hw with }
    · exact hw
  | wrWait => exact h.writeWait (by simp [hu, hf])

/-- Settles O53: a reset, or the host's part, the controller's part and the NOW increment, each keep the invariant. -/
theorem everyCycleKeepsTheInvariant : Obligations.EveryCycleKeepsTheInvariant := by
  intro s t h hs
  cases hr : s.pins.rst with
  | true =>
    cases (step_reset hr).symm.trans hs
    exact h.resetEdge
  | false =>
    cases (step_live hr).symm.trans hs
    exact { h.hostPhase.loopPhase State.hostPhase_fsm with }

end Sys2Proof.Safety

end

section

namespace Sys2Proof.Machine

variable {s t u : State} {r : Reg} {i : Nat} {a : BitVec 10} {v w : Word}

/-! ### What the controller's part of a cycle leaves alone -/

/-- What only the host or the clock changes: the configuration, the step table, the time base and the listed pins. -/
structure SameBase (u v : State) : Prop where
  /-- The configuration and the step table are the same (R54). -/
  config : Safety.SameConfig u v
  /-- NOW is the same (R25). -/
  now : v.now = u.now
  /-- The pins are the same. -/
  inputs : v.inputs = u.inputs

/-- The same, with LAST_CODE: every part of the controller but WR_WAIT keeps these. -/
structure SameLastCode (u v : State) : Prop extends SameBase u v where
  /-- LAST_CODE is the same (R23). -/
  lastCode : v.lastCode = u.lastCode

theorem SameLastCode.refl (u : State) : SameLastCode u u :=
  ⟨⟨⟨rfl, rfl, rfl, rfl, rfl, rfl, rfl, rfl⟩, rfl, rfl⟩, rfl⟩

theorem SameBase.table (h : SameBase u t) : t.table = u.table := by
  obtain ⟨⟨-, -, -, -, -, -, -, htable⟩, -, -⟩ := h
  exact htable

theorem SameLastCode.issueEntry (u : State) (i : Nat) : SameLastCode u (u.issueEntry i) := by
  obtain ⟨d, hd⟩ := u.afterStepRead_eq i
  rw [State.issueEntry, hd]
  exact { SameLastCode.refl u with }

theorem SameLastCode.sample (u : State) (m : BitVec 2) : SameLastCode u (u.sample m) := by
  rcases u.sample_cases m with ⟨-, h⟩ | ⟨-, h⟩ <;> rw [h] <;> exact { SameLastCode.refl u with }

theorem SameLastCode.hold (u : State) : SameLastCode u u.hold := by
  rcases u.hold_cases with ⟨-, h⟩ | ⟨-, -, -, h⟩ | ⟨-, -, -, h⟩ | ⟨-, -, h⟩ <;> rw [h]
  · exact .refl u
  · exact { SameLastCode.refl u with }
  · exact { SameLastCode.issueEntry u.countPass 0 with }
  · exact .issueEntry u _

theorem SameLastCode.present (u : State) (op : Bool) (a : BusAddr) (d : BitVec 16) (f : Fsm) :
    SameLastCode u (u.present op a d f) := by
  rcases u.present_cases op a d f with ⟨-, h⟩ | ⟨-, h⟩ <;> rw [h] <;> exact { SameLastCode.refl u with }

theorem SameLastCode.selectWait (u : State) : SameLastCode u u.selectWait := by
  rcases u.selectWait_cases with ⟨-, h⟩ | ⟨-, -, h⟩ | ⟨-, -, h⟩ <;> rw [h] <;> exact { SameLastCode.refl u with }

/-- A WRITE response, good or bad, keeps all but LAST_CODE (R75). -/
theorem SameBase.writeWait (u : State) : SameBase u u.writeWait := by
  have hu := (SameLastCode.refl u).toSameBase
  rcases u.writeWait_cases with ⟨-, h⟩ | ⟨-, -, h⟩ | ⟨-, -, h⟩ <;> rw [h]
  · exact hu
  · rcases u.writeDone_cases with ⟨-, h⟩ | ⟨-, -, h⟩ | ⟨-, -, h⟩ <;> rw [h] <;> exact { hu with }
  · exact { hu with }

/-- The controller's part in every FSM state but WR_WAIT. -/
theorem State.loopPhase_sameLastCode (hf : s.fsm ≠ .wrWait) (u : State) : SameLastCode u (s.loopPhase u) := by
  unfold State.loopPhase
  cases hs : s.fsm with
  | stopped => exact .refl u
  | pSample => exact .sample u _
  | sEntry => exact .issueEntry u _
  | sHold => exact .hold u
  | selReq => exact .present u _ _ _ _
  | selWait => exact .selectWait u
  | wrReq =>
    have h := SameLastCode.present u true s.busAddr (frame16 s.code) .wrWait
    dsimp only
    split
    · exact { h with }
    · exact h
  | wrWait => exact absurd hs hf

/-- The controller's part in WR_WAIT. -/
theorem State.loopPhase_wrWait (hf : s.fsm = .wrWait) (u : State) : s.loopPhase u = u.writeWait := by
  rw [State.loopPhase, hf]

/-- The controller changes neither the configuration nor the step table, NOW or the pins (R25, R54). -/
theorem State.loopPhase_sameBase (s u : State) : SameBase u (s.loopPhase u) := by
  by_cases hf : s.fsm = .wrWait
  · rw [State.loopPhase_wrWait hf]
    exact .writeWait u
  · exact (State.loopPhase_sameLastCode hf u).toSameBase

/-! ### What the host's part of a cycle leaves alone -/

/-- What no host access changes: the parameters, the time base, the pins, and the codes computed and written. -/
structure SameSample (u v : State) : Prop where
  /-- The parameters are the same. -/
  par : v.par = u.par
  /-- NOW is the same (R25). -/
  now : v.now = u.now
  /-- The pins are the same. -/
  inputs : v.inputs = u.inputs
  /-- CODE is the same (R27). -/
  code : v.code = u.code
  /-- LAST_CODE is the same (R23). -/
  lastCode : v.lastCode = u.lastCode

theorem SameSample.refl (u : State) : SameSample u u :=
  ⟨rfl, rfl, rfl, rfl, rfl⟩

theorem SameSample.startCommand (u : State) : SameSample u u.startCommand := by
  rcases u.startCommand_cases with ⟨-, h⟩ | ⟨-, -, h⟩ | ⟨-, -, h⟩ <;> rw [h] <;> exact { SameSample.refl u with }

theorem SameSample.regWrite (u : State) (w : Word) (r : Reg) : SameSample u (u.regWrite w r) := by
  cases r <;> exact { SameSample.refl u with }

/-- Neither a read, nor START, nor a register write reaches the samples or the time base. -/
theorem State.hostPhase_sameSample (s : State) : SameSample s s.hostPhase := by
  rcases s.hostPhase_cases with h | ⟨-, -, h⟩ | ⟨-, -, -, -, h⟩ | ⟨-, -, -, -, h⟩ <;> rw [h]
  · exact { SameSample.refl s with }
  · obtain ⟨d, hd⟩ := s.beginCycle.hostRead_cases s.pins.hpAddr
    rw [hd]
    exact { SameSample.refl s with }
  · exact { SameSample.startCommand s.beginCycle with }
  · exact { SameSample.regWrite s.beginCycle _ _ with }

/-- Settles O3: neither part of a cycle changes NOW or the pins, and the end of the cycle advances both. -/
theorem nowAdvancesInEveryCycle : Obligations.NowAdvancesInEveryCycle := by
  intro s hr
  have hl := s.loopPhase_sameBase s.hostPhase
  have hh := s.hostPhase_sameSample
  exact ⟨_, step_live hr, congrArg (· + 1) (hl.now.trans hh.now), congrArg List.tail (hl.inputs.trans hh.inputs)⟩

/-! ### LAST_CODE (R23) -/

/-- A successful WRITE records CODE, whether the run goes on or stops (R75, R77). -/
theorem State.writeDone_lastCode (u : State) : u.writeDone.lastCode = u.code := by
  rcases u.writeDone_cases with ⟨-, h⟩ | ⟨-, -, h⟩ | ⟨-, -, h⟩ <;> simp [h]

/-- LAST_CODE takes CODE when WR_WAIT takes a good response (R75). -/
theorem State.writeWait_lastCode (u : State) :
    u.writeWait.lastCode = if u.pins.tpRspValid = true ∧ u.pins.tpRsp.writeOk = true then u.code else u.lastCode := by
  rcases u.writeWait_cases with ⟨hv, h⟩ | ⟨hv, hok, h⟩ | ⟨hv, hok, h⟩ <;> rw [h]
  · simp [hv]
  · rw [if_pos ⟨hv, hok⟩]
    exact u.writeDone_lastCode
  · simp [hok]

/-- Settles O36: only WR_WAIT writes LAST_CODE, and the host's part leaves LAST_CODE, CODE and the pins as they were. -/
theorem lastCodeIsTheLastSuccessfulWrite : Obligations.LastCodeIsTheLastSuccessfulWrite := by
  intro s t hr hs
  cases (step_live hr).symm.trans hs
  have hh := s.hostPhase_sameSample
  rw [State.endCycle_lastCode]
  by_cases hf : s.fsm = .wrWait
  · rw [State.loopPhase_wrWait hf, State.writeWait_lastCode, State.pins_congr hh.inputs, hh.code, hh.lastCode]
    simp only [hf, true_and, writeOk_iff]
  · rw [(State.loopPhase_sameLastCode hf _).lastCode, hh.lastCode, if_neg fun h => hf h.1]

/-! ### The step table (R28) -/

/-- A register write that changes what an entry reads as is the write of that entry. -/
theorem State.regWrite_read_changed (h : (s.regWrite w r).table.read i ≠ s.table.read i) :
    r = .step i ∧ (s.regWrite w r).table.read i = some w := by
  cases r with
  | step j =>
    by_cases hj : i = j
    · subst hj
      exact ⟨rfl, Memory.read_write_same _ _ _⟩
    · exact absurd (Memory.read_write_other _ _ _ _ hj) h
  | _ => exact absurd rfl h

/-- START leaves the step table. -/
@[simp] theorem State.startCommand_table (s : State) : s.startCommand.table = s.table := by
  rcases s.startCommand_cases with ⟨-, h⟩ | ⟨-, -, h⟩ | ⟨-, -, h⟩ <;> simp [h]

/-- Settles O35: the controller and the reset keep the table, and of the host accesses only a register write in STOPPED
changes an entry. -/
theorem stepEntryChangesOnlyByItsWrite : Obligations.StepEntryChangesOnlyByItsWrite := by
  intro s t i hs hne
  cases hr : s.pins.rst with
  | true =>
    cases (step_reset hr).symm.trans hs
    exact absurd rfl hne
  | false =>
    cases (step_live hr).symm.trans hs
    rw [State.endCycle_table, (s.loopPhase_sameBase s.hostPhase).table] at hne ⊢
    rcases s.hostPhase_cases with h | ⟨-, -, h⟩ | ⟨-, -, -, -, h⟩ | ⟨hv, hw, -, hf, h⟩ <;> rw [h] at hne ⊢
    · exact absurd rfl hne
    · obtain ⟨d, hd⟩ := s.beginCycle.hostRead_cases s.pins.hpAddr
      rw [hd] at hne
      exact absurd rfl hne
    · rw [State.startCommand_table] at hne
      exact absurd rfl hne
    · obtain ⟨hreg, hread⟩ := State.regWrite_read_changed hne
      obtain ⟨haddr, hi⟩ := regOf_eq_step hreg
      exact ⟨hf, rfl, hv, hw, haddr, hi, hread⟩

/-! ### Reading a register back (R52, R53) -/

/-- The low `n` bits of a word, zero-extended, are the word under the mask of its low `n` bits. -/
theorem lowBits_eq_and {n : Nat} (hn : n ≤ 32) (w : Word) :
    (w.extractLsb' 0 n).setWidth 32 = w &&& BitVec.ofNat 32 (2 ^ n - 1) := by
  have hpow : 2 ^ n ≤ 2 ^ 32 := Nat.pow_le_pow_right (by decide) hn
  have hpos : 0 < 2 ^ n := Nat.two_pow_pos n
  have hmod : w.toNat % 2 ^ n < 2 ^ n := Nat.mod_lt _ hpos
  apply BitVec.eq_of_toNat_eq
  rw [BitVec.toNat_setWidth, field_toNat, BitVec.toNat_and, BitVec.toNat_ofNat, Nat.pow_zero, Nat.div_one,
    Nat.mod_eq_of_lt (by omega : w.toNat % 2 ^ n < 2 ^ 32), Nat.mod_eq_of_lt (by omega : 2 ^ n - 1 < 2 ^ 32),
    Nat.and_two_pow_sub_one_eq_mod]

/-- In STOPPED, WR of every register but CMD is the register write (R53). -/
theorem exec_wr_stopped (hf : s.fsm = .stopped) (hr : regOf s.par.stepDepth a = r) (hc : r ≠ .cmd) (w : Word) :
    exec (.wr a w) s = .next (s.regWrite w r) := by
  have ha : byteOffset a ≠ 0x004 := by
    intro ha
    apply hc
    rw [← hr, regOf, ha]
    rfl
  rw [← hr, ← State.hostWrite_stopped a w hf ha]
  rfl

/-- RD returns the word its slot's register reads as, and changes nothing where the read draws no free value (R52). -/
theorem exec_rd_of_regRead (hr : regOf s.par.stepDepth a = r) (hread : s.regRead r = v)
    (hafter : s.afterRegRead r = s) (d : Word) :
    exec (.rd a d) s = .next { s with out := { s.out with rdata := some v } } := by
  show Host.Outcome.next (s.hostRead a) = _
  rw [State.hostRead, hr, hread, hafter]

/-- What a register write stores is what the slot's RD returns. -/
theorem exec_rd_regWrite (hr : regOf s.par.stepDepth a = r) (hread : (s.regWrite w r).regRead r = v)
    (hafter : (s.regWrite w r).afterRegRead r = s.regWrite w r) (d : Word) :
    exec (.rd a d) (s.regWrite w r)
      = .next { s.regWrite w r with out := { (s.regWrite w r).out with rdata := some v } } :=
  exec_rd_of_regRead (by rw [(SameSample.regWrite s w r).par, hr]) hread hafter d

/-- The slots 0x002 to 0x005 are LO, HI, FTW and REPEAT (R14). -/
theorem regOf_word_cases (depth : Nat) (h2 : 0x002 ≤ a.toNat) (h5 : a.toNat ≤ 0x005) :
    regOf depth a = .lo ∨ regOf depth a = .hi ∨ regOf depth a = .ftw ∨ regOf depth a = .repeatN := by
  have ha : a = 2 ∨ a = 3 ∨ a = 4 ∨ a = 5 := by bv_omega
  rcases ha with rfl | rfl | rfl | rfl
  · exact .inl rfl
  · exact .inr (.inl rfl)
  · exact .inr (.inr (.inl rfl))
  · exact .inr (.inr (.inr rfl))

/-- Settles O11: WR stores in the slot's register what RD then returns, under the mask of the bits CTRL and STEP_LEN
have. -/
theorem writtenRegisterReadsBack : Obligations.WrittenRegisterReadsBack := by
  intro s t a w d hf hs
  refine ⟨?_, fun h2 h5 => ?_, ?_, fun hlo hhi => ?_⟩
  · rintro rfl
    have hr : regOf s.par.stepDepth 0x000 = .ctrl := rfl
    cases (exec_wr_stopped hf hr nofun w).symm.trans hs
    exact exec_rd_regWrite hr (lowBits_eq_and (n := 4) (by decide) w) rfl d
  · rcases regOf_word_cases s.par.stepDepth h2 h5 with hr | hr | hr | hr <;>
      cases (exec_wr_stopped hf hr nofun w).symm.trans hs <;>
      exact exec_rd_regWrite hr rfl rfl d
  · rintro rfl
    have hr : regOf s.par.stepDepth 0x006 = .stepLen := rfl
    cases (exec_wr_stopped hf hr nofun w).symm.trans hs
    exact exec_rd_regWrite hr (lowBits_eq_and (n := 9) (by decide) w) rfl d
  · have hr : regOf s.par.stepDepth a = .step (a.toNat - 0x100) := regOf_step (by omega) (by omega)
    cases (exec_wr_stopped hf hr nofun w).symm.trans hs
    obtain ⟨hread, hafter⟩ := State.stepEntry_written
      (s := s.regWrite w (.step (a.toNat - 0x100))) (Memory.read_write_same _ _ w)
    exact ⟨exec_rd_regWrite hr hread hafter d, fun j hj => Memory.read_write_other _ _ _ _ (by omega)⟩

end Sys2Proof.Machine

end

section

namespace Sys2Proof.Machine

variable {s t u : State}

/-! ### What the parts of a cycle leave of the ports -/

/-- The transport port is the same: what it shows, what it still owes, and what has passed through it. -/
structure SameTransport (u v : State) : Prop where
  /-- The request pins are the same (R68). -/
  req : v.out.req = u.out.req
  /-- As many responses are owed. -/
  outstanding : v.outstanding = u.outstanding
  /-- The same requests have transferred. -/
  requests : v.requests = u.requests

/-- The read data of the host port are the same as well. -/
structure SamePorts (u v : State) : Prop extends SameTransport u v where
  /-- hp_rdata is the same (R33). -/
  rdata : v.out.rdata = u.out.rdata

theorem SamePorts.refl (u : State) : SamePorts u u :=
  ⟨⟨rfl, rfl, rfl⟩, rfl⟩

theorem SamePorts.startCommand (u : State) : SamePorts u u.startCommand := by
  rcases u.startCommand_cases with ⟨-, h⟩ | ⟨-, -, h⟩ | ⟨-, -, h⟩ <;> rw [h] <;> exact { SamePorts.refl u with }

theorem SamePorts.regWrite (u : State) (w : Word) (r : Reg) : SamePorts u (u.regWrite w r) := by
  cases r <;> exact { SamePorts.refl u with }

/-- A write on the host port drives no output and reaches no request (R53). -/
theorem SamePorts.hostWrite (u : State) (a : BitVec 10) (w : Word) : SamePorts u (u.hostWrite a w) := by
  rcases u.hostWrite_cases a w with h | h | ⟨-, h⟩ <;> rw [h]
  · exact .refl u
  · exact .startCommand u
  · exact .regWrite u w _

theorem SameTransport.hostRead (u : State) (a : BitVec 10) : SameTransport u (u.hostRead a) := by
  obtain ⟨d, hd⟩ := u.hostRead_cases a
  rw [hd]
  exact { SamePorts.refl u with }

/-- The host's part of a cycle does not reach the transport port. -/
theorem State.hostPhase_sameTransport (s : State) : SameTransport s.beginCycle s.hostPhase := by
  unfold State.hostPhase
  split
  · split
    · exact (SamePorts.hostWrite _ _ _).toSameTransport
    · exact .hostRead _ _
  · exact (SamePorts.refl _).toSameTransport

theorem SamePorts.issueEntry (u : State) (i : Nat) : SamePorts u (u.issueEntry i) := by
  obtain ⟨d, hd⟩ := u.afterStepRead_eq i
  rw [State.issueEntry, hd]
  exact { SamePorts.refl u with }

theorem SamePorts.sample (u : State) (m : BitVec 2) : SamePorts u (u.sample m) := by
  rcases u.sample_cases m with ⟨-, h⟩ | ⟨-, h⟩ <;> rw [h] <;> exact { SamePorts.refl u with }

theorem SamePorts.hold (u : State) : SamePorts u u.hold := by
  rcases u.hold_cases with ⟨-, h⟩ | ⟨-, -, -, h⟩ | ⟨-, -, -, h⟩ | ⟨-, -, h⟩ <;> rw [h]
  · exact .refl u
  · exact { SamePorts.refl u with }
  · exact { SamePorts.issueEntry u.countPass 0 with }
  · exact .issueEntry u _

theorem SamePorts.selectWait (u : State) : SamePorts u u.selectWait := by
  rcases u.selectWait_cases with ⟨-, h⟩ | ⟨-, -, h⟩ | ⟨-, -, h⟩ <;> rw [h] <;> exact { SamePorts.refl u with }

theorem SamePorts.writeDone (u : State) : SamePorts u u.writeDone := by
  rcases u.writeDone_cases with ⟨-, h⟩ | ⟨-, -, h⟩ | ⟨-, -, h⟩ <;> rw [h] <;> exact { SamePorts.refl u with }

theorem SamePorts.writeWait (u : State) : SamePorts u u.writeWait := by
  rcases u.writeWait_cases with ⟨-, h⟩ | ⟨-, -, h⟩ | ⟨-, -, h⟩ <;> rw [h]
  · exact .refl u
  · exact .writeDone u
  · exact { SamePorts.refl u with }

/-- Outside the REQ states the controller drives no request and none transfers (R68). -/
theorem State.loopPhase_samePorts (hsel : s.fsm ≠ .selReq) (hwr : s.fsm ≠ .wrReq) (u : State) :
    SamePorts u (s.loopPhase u) := by
  unfold State.loopPhase
  cases hs : s.fsm with
  | stopped => exact .refl u
  | pSample => exact .sample u _
  | sEntry => exact .issueEntry u _
  | sHold => exact .hold u
  | selReq => exact absurd hs hsel
  | selWait => exact .selectWait u
  | wrReq => exact absurd hs hwr
  | wrWait => exact .writeWait u

/-- The controller's part in SEL_REQ (R72). -/
theorem State.loopPhase_selReq (hs : s.fsm = .selReq) (u : State) :
    s.loopPhase u = u.present false s.busAddr 0 .selWait := by
  rw [State.loopPhase, hs]

/-- The controller's part in WR_REQ is the request, but for the bytes of the frame (R74, R48). -/
theorem State.loopPhase_wrReq (hs : s.fsm = .wrReq) (u : State) :
    ∃ b, s.loopPhase u = { u.present true s.busAddr (frame16 s.code) .wrWait with wire := b } := by
  rw [State.loopPhase, hs]
  dsimp only
  split
  · exact ⟨_, rfl⟩
  · exact ⟨_, rfl⟩

/-! ### Read data (R33, R52) -/

/-- RegRead reads nothing that the start of a cycle changes. -/
theorem State.beginCycle_regRead (s : State) (r : Reg) : s.beginCycle.regRead r = s.regRead r := by
  cases r <;> rfl

/-- The host's part of a cycle drives hp_rdata for a read alone. -/
theorem State.hostPhase_rdata (s : State) :
    s.hostPhase.out.rdata =
      if s.pins.hpValid && !s.pins.hpWe then some (s.regRead (regOf s.par.stepDepth s.pins.hpAddr)) else none := by
  unfold State.hostPhase
  cases s.pins.hpValid with
  | false => rfl
  | true =>
    cases s.pins.hpWe with
    | true => exact (SamePorts.hostWrite s.beginCycle _ _).rdata
    | false => exact congrArg some (s.beginCycle_regRead _)

@[simp] theorem State.present_rdata (op : Bool) (a : BusAddr) (d : BitVec 16) (f : Fsm) :
    (u.present op a d f).out.rdata = u.out.rdata := by
  rcases u.present_cases op a d f with ⟨-, h⟩ | ⟨-, h⟩ <;> simp [h]

/-- The controller never touches hp_rdata. -/
theorem State.loopPhase_rdata (s u : State) : (s.loopPhase u).out.rdata = u.out.rdata := by
  by_cases hsel : s.fsm = .selReq
  · simp [State.loopPhase_selReq hsel]
  by_cases hwr : s.fsm = .wrReq
  · obtain ⟨b, hb⟩ := State.loopPhase_wrReq hwr u
    simp [hb]
  · exact (State.loopPhase_samePorts hsel hwr u).rdata

/-- Settles O33: the host's part sets hp_rdata before the controller's part, which leaves it. -/
theorem readDataAreThoseOfTheStartOfTheCycle : Obligations.ReadDataAreThoseOfTheStartOfTheCycle := by
  intro s t hr hs
  cases (step_live hr).symm.trans hs
  rw [State.endCycle_out, State.loopPhase_rdata, State.hostPhase_rdata]

/-! ### What a cycle does on the bus (R68, R72 to R75) -/

/-- The states between the transfer of a SELECT and the answer to its WRITE. -/
def Fsm.inTransaction : Fsm → Bool
  | .selWait | .wrReq | .wrWait => true
  | .stopped | .pSample | .sEntry | .selReq | .sHold => false

theorem Fsm.inTransaction_eq_false {f : Fsm} :
    f.inTransaction = false ↔ f ≠ .selWait ∧ f ≠ .wrReq ∧ f ≠ .wrWait := by
  cases f <;> decide

/-- What a cycle without reset that begins in `s` can do on the bus: the FSM state it leads to, and the requests that
transfer in it. -/
inductive BusStep (s : State) : Fsm → List (BitVec 24) → Prop where
  /-- The FSM is outside a transaction after the cycle; one that awaited a response has taken it. -/
  | outside {f : Fsm} (hf : f.inTransaction = false)
      (taken : s.fsm = .selWait ∨ s.fsm = .wrWait → s.pins.tpRspValid = true) : BusStep s f []
  /-- No response has come (R73, R75). -/
  | waits (hs : s.fsm = .selWait ∨ s.fsm = .wrWait) (silent : s.pins.tpRspValid = false) : BusStep s s.fsm []
  /-- The SELECT has succeeded (R73). -/
  | selected (hs : s.fsm = .selWait) (taken : s.pins.tpRspValid = true) : BusStep s .wrReq []
  /-- The WRITE is not taken (R74). -/
  | pends (hs : s.fsm = .wrReq) : BusStep s .wrReq []
  /-- The SELECT transfers (R72). -/
  | selects (hs : s.fsm = .selReq) : BusStep s .selWait [selectWord s.busAddr]
  /-- The WRITE transfers (R74). -/
  | writes (hs : s.fsm = .wrReq) : BusStep s .wrWait [writeWord s.busAddr s.code]

/-- From `u` to `v`, in a cycle that began in `s`, the controller makes one of its steps on the bus: the requests
transferred are recorded, and a response is owed for each. -/
def MovesOnBus (s u v : State) : Prop :=
  ∃ ws, BusStep s v.fsm ws ∧ v.requests = u.requests ++ ws ∧ v.outstanding = u.outstanding + ws.length

/-- A step that transfers no request. -/
theorem BusStep.moves {v : State} (hb : BusStep s v.fsm []) (h : SamePorts u v) : MovesOnBus s u v :=
  ⟨[], hb, h.requests.trans (List.append_nil _).symm, h.outstanding⟩

/-- A START leads to no request or response (R56). -/
theorem State.startCommand_inTransaction (hu : u.fsm.inTransaction = false) :
    u.startCommand.fsm.inTransaction = false := by
  rcases u.startCommand_cases with ⟨-, h⟩ | ⟨-, -, h⟩ | ⟨-, -, h⟩ <;> rw [h]
  · exact hu
  · rcases Safety.accept_fsm_cases u u.mode with ⟨-, hf⟩ | ⟨-, hf⟩ <;> rw [hf] <;> rfl
  · exact hu

/-- The host's part of a cycle begins no transaction in STOPPED. -/
theorem State.hostPhase_inTransaction (hs : s.fsm = .stopped) : s.hostPhase.fsm.inTransaction = false := by
  have hb : s.beginCycle.fsm.inTransaction = false := by rw [State.beginCycle_fsm, hs]; rfl
  rcases s.hostPhase_cases with h | ⟨-, -, h⟩ | ⟨-, -, -, -, h⟩ | ⟨-, -, -, -, h⟩ <;> rw [h]
  · exact hb
  · obtain ⟨d, hd⟩ := s.beginCycle.hostRead_cases s.pins.hpAddr
    rw [hd]
    exact hb
  · exact State.startCommand_inTransaction hb
  · cases regOf s.par.stepDepth s.pins.hpAddr <;> exact hb

theorem State.sample_inTransaction (u : State) (m : BitVec 2) : (u.sample m).fsm.inTransaction = false := by
  rcases u.sample_cases m with ⟨-, h⟩ | ⟨-, h⟩ <;> rw [h] <;> rfl

theorem State.hold_inTransaction (hu : u.fsm = .sHold) : u.hold.fsm.inTransaction = false := by
  rcases u.hold_cases with ⟨-, h⟩ | ⟨-, -, -, h⟩ | ⟨-, -, -, h⟩ | ⟨-, -, h⟩ <;> rw [h]
  · rw [hu]; rfl
  all_goals rfl

theorem State.writeDone_inTransaction (u : State) : u.writeDone.fsm.inTransaction = false := by
  rcases u.writeDone_cases with ⟨-, h⟩ | ⟨-, -, h⟩ | ⟨-, -, h⟩ <;> rw [h] <;> rfl

/-- SEL_REQ on the bus (R72). -/
theorem MovesOnBus.selReq (hs : s.fsm = .selReq) (hu : u.fsm = s.fsm) :
    MovesOnBus s u (u.present false s.busAddr 0 .selWait) := by
  rcases u.present_cases false s.busAddr 0 .selWait with ⟨-, h⟩ | ⟨-, h⟩ <;> rw [h]
  · exact ⟨_, .selects hs, rfl, rfl⟩
  · have hf : u.fsm.inTransaction = false := by rw [hu, hs]; rfl
    exact ⟨[], .outside hf (by simp [hs]), (List.append_nil _).symm, rfl⟩

/-- SEL_WAIT on the bus (R73). -/
theorem MovesOnBus.selWait (hs : s.fsm = .selWait) (hu : u.fsm = s.fsm) (hp : u.pins = s.pins) :
    MovesOnBus s u u.selectWait := by
  refine BusStep.moves ?_ (.selectWait u)
  rcases u.selectWait_cases with ⟨hv, h⟩ | ⟨hv, -, h⟩ | ⟨hv, -, h⟩ <;> rw [hp] at hv <;> rw [h]
  · rw [hu]
    exact .waits (.inl hs) hv
  · exact .selected hs hv
  · exact .outside rfl fun _ => hv

/-- WR_REQ on the bus (R74). -/
theorem MovesOnBus.wrReq (hs : s.fsm = .wrReq) (hu : u.fsm = s.fsm) :
    MovesOnBus s u (u.present true s.busAddr (frame16 s.code) .wrWait) := by
  rcases u.present_cases true s.busAddr (frame16 s.code) .wrWait with ⟨-, h⟩ | ⟨-, h⟩ <;> rw [h]
  · exact ⟨_, .writes hs, rfl, rfl⟩
  · refine ⟨[], ?_, (List.append_nil _).symm, rfl⟩
    rw [State.drive_fsm, hu, hs]
    exact .pends hs

/-- WR_WAIT on the bus (R75). -/
theorem MovesOnBus.wrWait (hs : s.fsm = .wrWait) (hu : u.fsm = s.fsm) (hp : u.pins = s.pins) :
    MovesOnBus s u u.writeWait := by
  refine BusStep.moves ?_ (.writeWait u)
  rcases u.writeWait_cases with ⟨hv, h⟩ | ⟨hv, -, h⟩ | ⟨hv, -, h⟩ <;> rw [hp] at hv <;> rw [h]
  · rw [hu]
    exact .waits (.inr hs) hv
  · exact .outside u.writeDone_inTransaction fun _ => hv
  · exact .outside rfl fun _ => hv

/-- The controller's part of a cycle on the bus, whatever its FSM state. -/
theorem State.loopPhase_movesOnBus (hu : s.fsm ≠ .stopped → u.fsm = s.fsm)
    (h0 : s.fsm = .stopped → u.fsm.inTransaction = false) (hp : u.pins = s.pins) :
    MovesOnBus s u (s.loopPhase u) := by
  unfold State.loopPhase
  cases hs : s.fsm with
  | stopped => exact BusStep.moves (.outside (h0 hs) (by simp [hs])) (.refl u)
  | pSample => exact BusStep.moves (.outside (u.sample_inTransaction _) (by simp [hs])) (.sample u _)
  | sEntry => exact BusStep.moves (.outside rfl (by simp [hs])) (.issueEntry u _)
  | sHold =>
    have hf : u.fsm = .sHold := by rw [hu (by simp [hs]), hs]
    exact BusStep.moves (.outside (State.hold_inTransaction hf) (by simp [hs])) (.hold u)
  | selReq => exact .selReq hs (hu (by simp [hs]))
  | selWait => exact .selWait hs (hu (by simp [hs])) hp
  | wrReq =>
    have h : MovesOnBus s u (u.present true s.busAddr (frame16 s.code) .wrWait) := .wrReq hs (hu (by simp [hs]))
    dsimp only
    split
    · exact h
    · exact h
  | wrWait => exact .wrWait hs (hu (by simp [hs])) hp

/-- A cycle without reset on the bus: a step of the controller, after the answer that came in it is taken off the
count. -/
theorem step_movesOnBus (hr : s.pins.rst = false) (h : step s = .next t) : MovesOnBus s s.beginCycle t := by
  cases (step_live hr).symm.trans h
  obtain ⟨ws, hb, hreq, hout⟩ := State.loopPhase_movesOnBus State.hostPhase_fsm State.hostPhase_inTransaction
    (State.pins_congr s.hostPhase_sameSample.inputs)
  have hh := s.hostPhase_sameTransport
  exact ⟨ws, hb, hh.requests ▸ hreq, hh.outstanding ▸ hout⟩

/-- A request is on the pins only in the REQ states (R68). -/
theorem step_req_valid (h : step s = .next t) (hv : t.out.req.valid = true) : s.fsm = .selReq ∨ s.fsm = .wrReq := by
  by_contra hs
  obtain ⟨hsel, hwr⟩ := not_or.mp hs
  cases hr : s.pins.rst with
  | true =>
    cases (step_reset hr).symm.trans h
    cases hv
  | false =>
    cases (step_live hr).symm.trans h
    rw [State.endCycle_out, (State.loopPhase_samePorts hsel hwr _).req, s.hostPhase_sameTransport.req] at hv
    cases hv

/-- A run keeps its bus address (R46, R54). -/
theorem step_busAddr (hf : s.fsm ≠ .stopped) (hr : s.pins.rst = false) (h : step s = .next t) :
    t.busAddr = s.busAddr := by
  cases (step_live hr).symm.trans h
  obtain ⟨⟨hpar, hctrl, -⟩, -, -⟩ := s.loopPhase_sameBase s.hostPhase
  obtain ⟨r, d, hh⟩ := State.hostPhase_running hf
  rw [hh] at hpar hctrl ⊢
  exact State.busAddr_congr hctrl hpar

end Sys2Proof.Machine

namespace Sys2Proof.Safety

open Sys2Proof.Machine

variable {s t : State}

/-! ### The order of the bus (R40) -/

@[simp] theorem busScan_append (ws : List (BitVec 24)) (w : BitVec 24) :
    busScan (ws ++ [w]) = scanRequest (busScan ws) w :=
  List.foldl_concat _ _ _ _

/-- A SELECT is in order after any requests in order (R40). -/
theorem scanRequest_select {o : Option (Option BusAddr)} (ho : o ≠ none) (a : BusAddr) :
    scanRequest o (selectWord a) = some (some a) := by
  obtain ⟨last, rfl⟩ := Option.ne_none_iff_exists'.mp ho
  simp only [scanRequest, selectWord, tpReqWord_op, tpReqWord_addr, Bool.false_eq_true, if_false]

/-- A WRITE is in order directly after the SELECT of its address (R40). -/
theorem scanRequest_write (a : BusAddr) (c : Code) : scanRequest (some (some a)) (writeWord a c) = some none := by
  simp only [scanRequest, writeWord, tpReqWord_op, tpReqWord_addr, if_true]

/-- Where no SELECT is under way the order is a matter of the requests so far alone. -/
theorem BusOrdered.of_not_selected (hn : busScan t.requests ≠ none) (hsel : t.fsm ≠ .selWait) (hwr : t.fsm ≠ .wrReq) :
    BusOrdered t :=
  ⟨hn, fun h => (h.elim hsel hwr).elim⟩

/-- While a SELECT is under way the last request is that SELECT. -/
theorem BusOrdered.of_selected (h : busScan t.requests = some (some t.busAddr)) : BusOrdered t :=
  ⟨by simp [h], fun _ => h⟩

/-- A SELECT under way stays the last request where none transfers. -/
theorem BusOrdered.of_kept (h : BusOrdered s) (hs : s.fsm = .selWait ∨ s.fsm = .wrReq)
    (hreq : t.requests = s.requests ++ []) (haddr : t.busAddr = s.busAddr) : BusOrdered t :=
  .of_selected (by rw [hreq, List.append_nil, haddr, h.selected hs])

/-- A cycle without reset keeps the order: of the steps on the bus only the transfers add a request, a SELECT in SEL_REQ
and the WRITE of the same address in WR_REQ; the address is the run's. -/
theorem BusOrdered.step_live (h : BusOrdered s) (hr : s.pins.rst = false) (hs : step s = .next t) : BusOrdered t := by
  have haddr (hf : s.fsm ≠ .stopped) : t.busAddr = s.busAddr := step_busAddr hf hr hs
  obtain ⟨ws, hb, hreq, -⟩ := step_movesOnBus hr hs
  rw [State.beginCycle_requests] at hreq
  generalize ht : t.fsm = f at hb
  cases hb with
  | outside hf taken =>
    obtain ⟨hsel, hwr, -⟩ := Fsm.inTransaction_eq_false.mp hf
    exact .of_not_selected (by simpa [hreq] using h.scanned) (ht ▸ hsel) (ht ▸ hwr)
  | waits hw silent =>
    rcases hw with hw | hw
    · exact h.of_kept (.inl hw) hreq (haddr (by simp [hw]))
    · exact .of_not_selected (by simpa [hreq] using h.scanned) (by simp [ht, hw]) (by simp [ht, hw])
  | selected hw taken => exact h.of_kept (.inl hw) hreq (haddr (by simp [hw]))
  | pends hw => exact h.of_kept (.inr hw) hreq (haddr (by simp [hw]))
  | selects hw =>
    refine .of_selected ?_
    rw [hreq, busScan_append, haddr (by simp [hw])]
    exact scanRequest_select h.scanned _
  | writes hw =>
    refine .of_not_selected ?_ (by simp [ht]) (by simp [ht])
    rw [hreq, busScan_append, h.selected (.inr hw), scanRequest_write]
    exact nofun

/-- Settles O54: a reset adds no request and leaves STOPPED, and every other cycle keeps the order. -/
theorem everyWriteFollowsItsSelect : Obligations.EveryWriteFollowsItsSelect := by
  intro s t h hs
  cases hr : s.pins.rst with
  | true =>
    cases (step_reset hr).symm.trans hs
    exact .of_not_selected h.scanned nofun nofun
  | false => exact h.step_live hr hs

/-! ### One request at a time (R40, R68) -/

/-- With one request at a time nothing is owed but in a WAIT state whose response has not come. -/
theorem OneRequest.answered_eq_zero (h : OneRequest s)
    (taken : s.fsm = .selWait ∨ s.fsm = .wrWait → s.pins.tpRspValid = true) : s.answered = 0 := by
  unfold State.answered
  by_cases hw : s.fsm = .selWait ∨ s.fsm = .wrWait
  · rw [if_pos (taken hw), h.waiting hw]
  · obtain ⟨hsel, hwr⟩ := not_or.mp hw
    simp [h.settled hsel hwr]

/-- A state outside the WAIT states owes nothing. -/
theorem OneRequest.of_settled (hsel : t.fsm ≠ .selWait) (hwr : t.fsm ≠ .wrWait) (h : t.outstanding = 0) :
    OneRequest t :=
  ⟨fun hw => (hw.elim hsel hwr).elim, fun _ _ => h⟩

/-- A WAIT state owes one response. -/
theorem OneRequest.of_waiting (hw : t.fsm = .selWait ∨ t.fsm = .wrWait) (h : t.outstanding = 1) : OneRequest t :=
  ⟨fun _ => h, fun hsel hwr => (hw.elim hsel hwr).elim⟩

/-- A cycle without reset keeps one request at a time: one transfers only where none is owed, and leads to a WAIT state;
the response is taken where it comes, and leads out of the WAIT state. -/
theorem OneRequest.step_live (h : OneRequest s) (hr : s.pins.rst = false) (hs : step s = .next t) : OneRequest t := by
  obtain ⟨ws, hb, -, hout⟩ := step_movesOnBus hr hs
  rw [State.beginCycle_outstanding] at hout
  generalize ht : t.fsm = f at hb
  cases hb with
  | outside hf taken =>
    rw [h.answered_eq_zero taken] at hout
    obtain ⟨hsel, -, hwr⟩ := Fsm.inTransaction_eq_false.mp hf
    exact .of_settled (ht ▸ hsel) (ht ▸ hwr) hout
  | waits hw silent =>
    refine .of_waiting (ht ▸ hw) ?_
    rw [hout, State.answered, silent, ← h.waiting hw]
    rfl
  | selected hsel taken =>
    rw [h.answered_eq_zero fun _ => taken] at hout
    exact .of_settled (by simp [ht]) (by simp [ht]) hout
  | pends hwr =>
    rw [h.answered_eq_zero (by simp [hwr])] at hout
    exact .of_settled (by simp [ht]) (by simp [ht]) hout
  | selects hsel =>
    rw [h.answered_eq_zero (by simp [hsel])] at hout
    exact .of_waiting (.inl ht) hout
  | writes hwr =>
    rw [h.answered_eq_zero (by simp [hwr])] at hout
    exact .of_waiting (.inr ht) hout

/-- Settles O55: a reset leaves nothing owed by the duty of R99, and every other cycle keeps one request at a time; a
request is presented in the REQ states alone, where no response is owed. T2 is not needed: the model's count stays at 0
when a response comes that is not owed. -/
theorem requestsNeverOverlap : Obligations.RequestsNeverOverlap := by
  intro s t h _ hreset hs
  refine ⟨?_, fun hv => ?_⟩
  · cases hr : s.pins.rst with
    | true =>
      cases (step_reset hr).symm.trans hs
      exact .of_settled nofun nofun (hreset hr)
    | false => exact h.step_live hr hs
  · rcases step_req_valid hs hv with hf | hf <;> exact h.settled (by simp [hf]) (by simp [hf])

end Sys2Proof.Safety

end

section

namespace Sys2Proof

variable {e : Encoding} {i : Instr}

/-! ### The fields of a TPREQ read back (R46) -/

@[simp] theorem tpReqWord_data (op : Bool) (a : BusAddr) (d : BitVec 16) : (tpReqWord op a d).extractLsb' 0 16 = d :=
  BitVec.extractLsb'_append_eq_right

/-- The upper nibble and the code of DATA stand in the low bits of the word. -/
theorem tpReqWord_lowField (op : Bool) (a : BusAddr) (d : BitVec 16) {lo len : Nat} (h : lo + len ≤ 16) :
    (tpReqWord op a d).extractLsb' lo len = d.extractLsb' lo len :=
  BitVec.extractLsb'_append_eq_of_add_le h

/-! ### A word is its fields, so no bit is dropped (R42, R43, R46, R48) -/

theorem ofBool_getLsbD {w : Nat} (x : BitVec w) (k : Nat) : BitVec.ofBool (x.getLsbD k) = x.extractLsb' k 1 := by
  ext j hj
  obtain rfl : j = 0 := by omega
  simp

theorem hostOpWord_fields (w : BitVec 43) :
    hostOpWord (w.getLsbD 42) (w.extractLsb' 32 10) (w.extractLsb' 0 32) = w := by
  rw [hostOpWord, ofBool_getLsbD, BitVec.extractLsb'_append_extractLsb'_eq_extractLsb' (by rfl),
    BitVec.extractLsb'_append_extractLsb'_eq_extractLsb' (by rfl)]
  exact BitVec.extractLsb'_eq_self

theorem commandWord_fields (w : Word) : commandWord (w.extractLsb' 8 24) (w.extractLsb' 0 8) = w := by
  rw [commandWord, BitVec.extractLsb'_append_extractLsb'_eq_extractLsb' (by rfl)]
  exact BitVec.extractLsb'_eq_self

theorem tpReqWord_fields (w : BitVec 24) :
    tpReqWord (w.getLsbD 23) (w.extractLsb' 16 7) (w.extractLsb' 0 16) = w := by
  rw [tpReqWord, ofBool_getLsbD, BitVec.extractLsb'_append_extractLsb'_eq_extractLsb' (by rfl),
    BitVec.extractLsb'_append_extractLsb'_eq_extractLsb' (by rfl)]
  exact BitVec.extractLsb'_eq_self

/-- Sixteen bits whose upper nibble is 0 are the frame of their code, whatever word they are the low end of. -/
theorem frame16_lowBits {n : Nat} (w : BitVec n) (h : w.extractLsb' 12 4 = 0) :
    frame16 (w.extractLsb' 0 12) = w.extractLsb' 0 16 := by
  rw [frame16, ← h]
  exact BitVec.extractLsb'_append_extractLsb'_eq_extractLsb' (by rfl)

theorem encodeTpRsp_fields (w : BitVec 3) : encodeTpRsp (decodeTpRsp w) = w := by
  rw [encodeTpRsp, decodeTpRsp, ofBool_getLsbD, BitVec.extractLsb'_append_extractLsb'_eq_extractLsb' (by rfl)]
  exact BitVec.extractLsb'_eq_self

theorem decodeTpRsp_encodeTpRsp (r : TpRsp) : decodeTpRsp (encodeTpRsp r) = r := by
  obtain ⟨ok, count⟩ := r
  have hok : (encodeTpRsp ⟨ok, count⟩).getLsbD 2 = ok := by
    rw [encodeTpRsp, BitVec.getLsbD_append, if_neg (by decide)]
    simp
  have hcount : (encodeTpRsp ⟨ok, count⟩).extractLsb' 0 2 = count := BitVec.extractLsb'_append_eq_right
  rw [decodeTpRsp, hok, hcount]

/-! ### Decoding the word of an operation (R42 to R48) -/

theorem decodeTpReq_selectWord (a : BusAddr) : decodeTpReq (selectWord a) = .ok (.tpSelect a) := by
  rw [decodeTpReq, selectWord, tpReqWord_op, tpReqWord_addr, tpReqWord_data, if_neg Bool.false_ne_true, if_pos rfl]

theorem decodeTpReq_writeWord (a : BusAddr) (c : Code) : decodeTpReq (writeWord a c) = .ok (.tpWrite a c) := by
  rw [decodeTpReq, writeWord, tpReqWord_op, tpReqWord_addr, tpReqWord_lowField _ _ _ (by decide),
    tpReqWord_lowField _ _ _ (by decide), frame16_upper, frame16_code, if_pos rfl, if_pos rfl]

theorem decodeFrame_frame16 (c : Code) : decodeFrame (frame16 c) = .ok (.dacFrame c) := by
  rw [decodeFrame, frame16_upper, frame16_code, if_pos rfl]

/-- The decoder undoes the encoder on the well-formed operations. -/
theorem decode_encode (h : i.wf = true) : decode (encode i) = .ok i := by
  cases i with
  | start upper =>
    show Except.ok _ = _
    rw [decodeHostOp_command, decodeCommand_start (commandWord_opc _ _), commandWord_upper]
  | nop upper opc =>
    have hopc : opc ≠ startOpcode := bne_iff_ne.mp h
    show Except.ok _ = _
    rw [decodeHostOp_command, decodeCommand_nop (by rwa [commandWord_opc]), commandWord_upper, commandWord_opc]
  | wr waddr data => exact congrArg Except.ok (decodeHostOp_wr data (bne_iff_ne.mp h))
  | rd waddr data => exact congrArg Except.ok (decodeHostOp_rd waddr data)
  | modeStep | modeSine | modeSawtooth | modeReserved => rfl
  | tpSelect addr => exact decodeTpReq_selectWord addr
  | tpWrite addr code => exact decodeTpReq_writeWord addr code
  | dacFrame code => exact decodeFrame_frame16 code

/-- Settles O41: field by field, the decoder reads back what the encoder wrote. -/
theorem decodeOfEncode : Obligations.DecodeOfEncode :=
  ⟨fun _ => decode_encode, decodeTpRsp_encodeTpRsp⟩

/-! ### The word of what a word decodes to -/

/-- A CMD32 decodes to START or to a NOP with another opcode (R43). -/
theorem encode_decodeCommand (w : Word) :
    (decodeCommand w).wf = true ∧ encode (decodeCommand w) = .hostOp (hostOpWord true cmdSlot w) := by
  have hw := commandWord_fields w
  by_cases h : w.extractLsb' 0 8 = startOpcode
  · rw [decodeCommand_start h, encode, ← h, hw]
    exact ⟨rfl, rfl⟩
  · rw [decodeCommand_nop h, encode, hw]
    exact ⟨bne_iff_ne.mpr h, rfl⟩

/-- A HOSTOP decodes to a command, a `WR` of another slot, or an `RD` (R42). -/
theorem encode_decodeHostOp (w : BitVec 43) : (decodeHostOp w).wf = true ∧ encode (decodeHostOp w) = .hostOp w := by
  rw [← hostOpWord_fields w]
  generalize w.getLsbD 42 = we, w.extractLsb' 32 10 = a, w.extractLsb' 0 32 = d
  cases we with
  | false =>
    rw [decodeHostOp_rd]
    exact ⟨rfl, rfl⟩
  | true =>
    by_cases h : a = cmdSlot
    · rw [h, decodeHostOp_command]
      exact encode_decodeCommand d
    · rw [decodeHostOp_wr d h]
      exact ⟨bne_iff_ne.mpr h, rfl⟩

/-- Each of the four values of CTRL.MODE is the word of its row (R44). -/
theorem encode_decodeMode : ∀ m, (decodeMode m).wf = true ∧ encode (decodeMode m) = .ctrlMode m := by
  decide

/-- A TPREQ that is not refused is a SELECT with DATA = 0 or a WRITE of a frame (R46). -/
theorem encode_decodeTpReq {w : BitVec 24} (h : decodeTpReq w = .ok i) : i.wf = true ∧ encode i = .tpReq w := by
  have hw := tpReqWord_fields w
  unfold decodeTpReq at h
  split at h
  next hop =>
    split at h
    · next hnibble =>
      cases h
      rw [hop, ← frame16_lowBits w hnibble] at hw
      exact ⟨rfl, congrArg Encoding.tpReq hw⟩
    · cases h
  next hop =>
    split at h
    · next hdata =>
      cases h
      rw [Bool.eq_false_iff.mpr hop, hdata] at hw
      exact ⟨rfl, congrArg Encoding.tpReq hw⟩
    · cases h

/-- A FRAME16 that is not refused is the frame of its code (R48). -/
theorem encode_decodeFrame {w : BitVec 16} (h : decodeFrame w = .ok i) : i.wf = true ∧ encode i = .frame16 w := by
  unfold decodeFrame at h
  split at h
  · next hnibble =>
    cases h
    exact ⟨rfl, congrArg Encoding.frame16 ((frame16_lowBits w hnibble).trans BitVec.extractLsb'_eq_self)⟩
  · cases h

/-- The encoder undoes the decoder, which yields well-formed operations only. -/
theorem encode_of_decode (h : decode e = .ok i) : i.wf = true ∧ encode i = e := by
  cases e with
  | hostOp w => cases h; exact encode_decodeHostOp w
  | ctrlMode m => cases h; exact encode_decodeMode m
  | tpReq w => exact encode_decodeTpReq h
  | frame16 w => exact encode_decodeFrame h

theorem format_encode (i : Instr) : (encode i).format = i.format := by
  cases i <;> rfl

/-- Settles O42: each branch of the decoder names the fields of its word, and a word is its fields. -/
theorem encodeOfDecode : Obligations.EncodeOfDecode := by
  refine ⟨fun e i h => ?_, fun w => ⟨decodeHostOp w, rfl⟩, fun m => ⟨decodeMode m, rfl⟩, encodeTpRsp_fields⟩
  obtain ⟨hwf, rfl⟩ := encode_of_decode h
  exact ⟨hwf, rfl, format_encode i⟩

/-- Settles O43: each word is computed. -/
theorem writtenOutWordsDecode : Obligations.WrittenOutWordsDecode := by
  unfold Obligations.WrittenOutWordsDecode
  decide

end Sys2Proof

end

section

namespace Sys2Proof.Machine

variable {s : State} {i : Instr}

/-! ### Each operation where it runs (R44, R48, R49, R56) -/

/-- Settles O4: no arm faults or refuses; the requests alone depend on the FSM state for which next state they give. -/
theorem everyOperationCompletes : Obligations.EveryOperationCompletes := by
  intro i s
  cases i with
  | start | nop | wr | rd | modeStep | modeSine | modeSawtooth | modeReserved | dacFrame => exact ⟨_, rfl⟩
  | tpSelect addr =>
    show ∃ t, execTpSelect addr s = .next t
    unfold execTpSelect
    split <;> exact ⟨_, rfl⟩
  | tpWrite addr code =>
    show ∃ t, execTpWrite addr code s = .next t
    unfold execTpWrite
    split <;> exact ⟨_, rfl⟩

/-- In STOPPED a mode is launched with the outcome of its own checks (R56). -/
theorem State.modeCycle_stopped (hf : s.fsm = .stopped) (m : BitVec 2) :
    s.modeCycle m = s.launch m (s.modeError m) := by
  rw [State.modeCycle, hf]

/-- Once the device is acquired, a START in STOPPED is the selected mode's part there (R44, R56). -/
theorem State.startCommand_acquired (hf : s.fsm = .stopped) (ha : s.pins.tpAvail = true) :
    s.startCommand = s.modeCycle s.mode := by
  rw [State.startCommand, State.running_eq_false.mpr hf, State.startError, ha, State.modeCycle_stopped hf]
  rfl

/-- Settles O16: the acquisition check passes, and the others are those of the mode. -/
theorem startRunsTheSelectedMode : Obligations.StartRunsTheSelectedMode := by
  intro u s i hf ha hd
  have hi : decodeMode s.mode = i := Except.ok.inj hd
  calc exec (.start u) s
    _ = .next (s.modeCycle s.mode) := congrArg Host.Outcome.next (State.startCommand_acquired hf ha)
    _ = exec i s := by rw [← hi, exec_mode]

/-- Settles O17: MODE = 3 fails the first check of its launch. -/
theorem reservedModeIsRejected : Obligations.ReservedModeIsRejected := by
  intro s hf
  have h : s.modeCycle 3 = s.reject .mode := State.modeCycle_stopped hf 3
  exact congrArg Host.Outcome.next h

theorem frameByte0_eq (c : Code) : frameByte0 c = BitVec.ofNat 8 (c.toNat / 256) := by
  apply BitVec.eq_of_toNat_eq
  rw [frameByte0, field_toNat, frame16_toNat, BitVec.toNat_ofNat]
  rfl

theorem frameByte1_eq (c : Code) : frameByte1 c = BitVec.ofNat 8 (c.toNat % 256) := by
  apply BitVec.eq_of_toNat_eq
  rw [frameByte1, field_toNat, frame16_toNat, BitVec.toNat_ofNat, Nat.mod_mod]
  omega

/-- Settles O27: the two bytes are the quotient and the remainder of the code by 256. -/
theorem frameIsTwoBytesHighFirst : Obligations.FrameIsTwoBytesHighFirst := by
  intro c s
  rw [← frameByte0_eq, ← frameByte1_eq, ← frame16_eq_setWidth]
  exact ⟨rfl, rfl⟩

/-! ### Where an operation's word stands (log entry 10) -/

@[simp] theorem State.withMode_mode (s : State) (m : BitVec 2) : (s.withMode m).mode = m :=
  BitVec.extractLsb'_append_eq_right

@[simp] theorem State.withBusAddr_busAddr (s : State) (a : BusAddr) : (s.withBusAddr a).busAddr = a := by
  unfold State.withBusAddr
  split
  · next h => exact if_pos h
  · next h => exact if_neg h

/-- In WR_REQ the controller presents the WRITE, whether or not it transfers (R74). -/
theorem State.tpWrite_mem_loopOps (hf : s.fsm = .wrReq) : .tpWrite s.busAddr s.code ∈ s.loopOps := by
  rw [State.loopOps, hf]
  dsimp only
  split <;> exact List.mem_cons_self

/-- A placed operation is not swept away by a reset. -/
theorem State.place_rst (s : State) (i : Instr) : (s.place i).pins.rst = false := by
  cases i <;> rfl

/-- A placed HOSTOP is presented on the host port, bit for bit (R42). -/
theorem State.place_hostWord (s : State) (hh : i.format = .hostOp) :
    (s.place i).pins.hpValid = true ∧ encode i = .hostOp (s.place i).pins.hostWord := by
  cases i with
  | start | nop | wr | rd => exact ⟨rfl, congrArg Encoding.hostOp (hostOpWord_fields _).symm⟩
  | modeStep | modeSine | modeSawtooth | modeReserved | tpSelect | tpWrite | dacFrame => cases hh

/-- A well-formed HOSTOP that is placed heads the cycle's operations. -/
theorem State.place_cycleOps_hostOp (s : State) (hh : i.format = .hostOp) (hwf : i.wf = true) :
    (s.place i).cycleOps = i :: (s.place i).loopOps := by
  obtain ⟨hv, hw⟩ := s.place_hostWord hh
  exact State.cycleOps_of_access hv (hw ▸ decode_encode hwf)

/-- A placed mode, request or frame is among the controller's operations; no run has the reserved mode. -/
theorem State.mem_place_loopOps (s : State) (hh : i.format ≠ .hostOp) (hr : i ≠ .modeReserved) :
    i ∈ (s.place i).loopOps := by
  cases i with
  | start | nop | wr | rd => exact absurd rfl hh
  | modeReserved => exact absurd rfl hr
  | modeStep => exact List.mem_singleton.mpr (congrArg decodeMode (s.withMode_mode 0)).symm
  | modeSine => exact List.mem_singleton.mpr (congrArg decodeMode (s.withMode_mode 1)).symm
  | modeSawtooth => exact List.mem_singleton.mpr (congrArg decodeMode (s.withMode_mode 2)).symm
  | tpSelect addr => exact List.mem_singleton.mpr (congrArg Instr.tpSelect (s.withBusAddr_busAddr addr)).symm
  | tpWrite addr code =>
    have hw := State.tpWrite_mem_loopOps (s := s.place (.tpWrite addr code)) rfl
    have hb : (s.place (.tpWrite addr code)).busAddr = addr := s.withBusAddr_busAddr addr
    rw [hb] at hw
    exact hw
  | dacFrame code => exact List.mem_cons_of_mem _ (List.mem_singleton.mpr rfl)

/-- A placed well-formed operation is run by the next step, but for the reserved mode. -/
theorem State.mem_place_cycleOps (s : State) (hwf : i.wf = true) (hr : i ≠ .modeReserved) :
    i ∈ (s.place i).cycleOps := by
  by_cases hh : i.format = .hostOp
  · rw [s.place_cycleOps_hostOp hh hwf]
    exact List.mem_cons_self
  · exact List.mem_append_right _ (s.mem_place_loopOps hh hr)

/-- The reserved mode is placed as a START that finds the device acquired. -/
theorem State.place_modeReserved_cycleOps (s : State) : (s.place .modeReserved).cycleOps = [.start 0] := by
  obtain ⟨-, hw⟩ := s.place_hostWord (i := .start 0) rfl
  have hd : decode (.hostOp (s.place .modeReserved).pins.hostWord) = .ok (.start 0) := hw ▸ decode_encode rfl
  rw [State.cycleOps_of_access rfl hd]
  rfl

/-- The START placed for the reserved mode does what that mode's row does in STOPPED (R44, R57). -/
theorem State.exec_start_place_modeReserved (s : State) :
    exec (.start 0) (s.place .modeReserved).beginCycle = exec .modeReserved (s.place .modeReserved).beginCycle := by
  refine startRunsTheSelectedMode _ _ _ rfl rfl ?_
  show decode (.ctrlMode (s.withMode 3).mode) = .ok .modeReserved
  rw [State.withMode_mode]
  rfl

theorem State.withFetchWord_of_decode {nbits w : Nat} (s : State) (h : decodeTableWord nbits w = some i) :
    s.withFetchWord nbits w = s.place i := by
  rw [State.withFetchWord, h]

theorem wf_of_decodeTableWord {nbits w : Nat} (h : decodeTableWord nbits w = some i) : i.wf = true := by
  unfold decodeTableWord decodeWord at h
  cases he : tableEncoding nbits w with
  | error r => simp [he] at h
  | ok e =>
    cases hd : decode e with
    | error r => simp [he, hd] at h
    | ok j =>
      obtain ⟨hwf, -⟩ := encode_of_decode hd
      simp only [he, hd, Option.some.injEq] at h
      exact h ▸ hwf

/-- Settles O60: what a word decodes to is well-formed, so it is run where it is placed. -/
theorem placedWordIsRunNext : Obligations.PlacedWordIsRunNext := by
  intro s nbits w i h
  rw [s.withFetchWord_of_decode h]
  refine ⟨s.place_rst i, s.mem_place_cycleOps (wf_of_decodeTableWord h), ?_⟩
  rintro rfl
  exact ⟨s.place_modeReserved_cycleOps, s.exec_start_place_modeReserved⟩

end Sys2Proof.Machine

end

section

namespace Sys2Proof.Machine

variable {s : State} {a : BitVec 10} {w : Word} {e : ErrKind} {m : BitVec 2}

/-! ### What each host operation does (R52 to R56) -/

theorem exec_start (u : BitVec 24) (s : State) : exec (.start u) s = .next s.startCommand := rfl

theorem exec_wr (a : BitVec 10) (w : Word) (s : State) : exec (.wr a w) s = .next (s.hostWrite a w) := rfl

theorem exec_rd (a : BitVec 10) (d : Word) (s : State) : exec (.rd a d) s = .next (s.hostRead a) := rfl

/-! ### A write during a run (R54) -/

/-- The same state with no access on the host port. -/
def State.withoutAccess (s : State) : State :=
  s.withPins { s.pins with hpValid := false }

theorem State.withoutAccess_beginCycle (s : State) : s.withoutAccess.beginCycle = s.beginCycle.withoutAccess := rfl

theorem State.withoutAccess_endCycle (s : State) : s.withoutAccess.endCycle = s.endCycle := rfl

theorem State.withoutAccess_resetEdge (s : State) : s.withoutAccess.resetEdge = s.resetEdge := rfl

theorem State.withoutAccess_hostPhase (s : State) : s.withoutAccess.hostPhase = s.beginCycle.withoutAccess := rfl

theorem State.withoutAccess_issueEntry (u : State) (i : Nat) :
    u.withoutAccess.issueEntry i = (u.issueEntry i).withoutAccess := by
  cases h : u.table.read i with
  | some x => rw [State.issueEntry_written h, State.issueEntry_written (s := u.withoutAccess) h]; rfl
  | none => rw [State.issueEntry_unwritten h, State.issueEntry_unwritten (s := u.withoutAccess) h]; rfl

theorem State.withoutAccess_sample (u : State) (m : BitVec 2) :
    u.withoutAccess.sample m = (u.sample m).withoutAccess := by
  unfold State.sample
  rw [apply_ite State.withoutAccess]
  rfl

theorem State.withoutAccess_hold (u : State) : u.withoutAccess.hold = u.hold.withoutAccess := by
  unfold State.hold
  simp only [apply_ite State.withoutAccess, ← State.withoutAccess_issueEntry]
  rfl

theorem State.withoutAccess_present (u : State) (op : Bool) (b : BusAddr) (d : BitVec 16) (f : Fsm) :
    u.withoutAccess.present op b d f = (u.present op b d f).withoutAccess := by
  unfold State.present
  rw [apply_ite State.withoutAccess]
  rfl

theorem State.withoutAccess_selectWait (u : State) : u.withoutAccess.selectWait = u.selectWait.withoutAccess := by
  unfold State.selectWait
  simp only [apply_ite State.withoutAccess]
  rfl

theorem State.withoutAccess_writeDone (u : State) : u.withoutAccess.writeDone = u.writeDone.withoutAccess := by
  unfold State.writeDone
  simp only [apply_ite State.withoutAccess]
  rfl

theorem State.withoutAccess_writeWait (u : State) : u.withoutAccess.writeWait = u.writeWait.withoutAccess := by
  unfold State.writeWait
  simp only [apply_ite State.withoutAccess, ← State.withoutAccess_writeDone]
  rfl

/-- The controller does not look at the host port (R69 to R76). -/
theorem State.withoutAccess_loopPhase (s u : State) :
    s.withoutAccess.loopPhase u.withoutAccess = (s.loopPhase u).withoutAccess := by
  have hf : s.withoutAccess.fsm = s.fsm := rfl
  unfold State.loopPhase
  rw [hf]
  cases s.fsm with
  | stopped => rfl
  | pSample => exact u.withoutAccess_sample _
  | sEntry => exact u.withoutAccess_issueEntry _
  | sHold => exact u.withoutAccess_hold
  | selReq => exact u.withoutAccess_present _ _ _ _
  | selWait => exact u.withoutAccess_selectWait
  | wrReq =>
    dsimp only
    rw [apply_ite State.withoutAccess, ← State.withoutAccess_present]
    exact if_congr Iff.rfl (congrArg (State.handFrame · s.code) (u.withoutAccess_present _ _ _ _)) rfl
  | wrWait => exact u.withoutAccess_writeWait

/-- During a run a write on the host port leaves nothing of the cycle other than without it (R54, R58). -/
theorem step_withoutAccess (hf : s.fsm ≠ .stopped) (hw : s.pins.hpWe = true) : step s.withoutAccess = step s := by
  cases hr : s.pins.rst with
  | true => rw [step_reset hr, step_reset (s := s.withoutAccess) hr, State.withoutAccess_resetEdge]
  | false =>
    have hhost : s.hostPhase = s.beginCycle := by
      rw [State.hostPhase, if_pos hw, State.hostWrite_running (s := s.beginCycle) _ _ hf, ite_self]
    rw [step_live hr, step_live (s := s.withoutAccess) hr, hhost, State.withoutAccess_hostPhase,
      State.withoutAccess_loopPhase, State.withoutAccess_endCycle]

/-- Settles O8: during a run a write leaves the state, and the controller does not see the host port. -/
theorem writeIsIgnoredDuringARun : Obligations.WriteIsIgnoredDuringARun := by
  refine ⟨fun s a w hf _ => ?_, fun s hf hw _ => (step_withoutAccess hf hw).symm, fun s w hf => ?_⟩
  · rw [exec_wr, State.hostWrite_running a w hf]
  · exact exec_wr_stopped (r := .lo) hf rfl nofun w

/-! ### The frame of a write (R53, R54, R56) -/

/-- What neither a register write nor START changes. -/
structure SameBeyondWrite (u v : State) : Prop extends SameSample u v where
  /-- ES is the same (R26). -/
  es : v.es = u.es
  /-- The outputs are the same. -/
  out : v.out = u.out
  /-- As many responses are owed. -/
  outstanding : v.outstanding = u.outstanding
  /-- The same requests have transferred. -/
  requests : v.requests = u.requests
  /-- The same frames have been handed over. -/
  wire : v.wire = u.wire
  /-- As many free values have been drawn. -/
  draws : v.draws = u.draws

theorem SameBeyondWrite.refl (u : State) : SameBeyondWrite u u :=
  ⟨.refl u, rfl, rfl, rfl, rfl, rfl, rfl⟩

theorem SameBeyondWrite.startCommand (u : State) : SameBeyondWrite u u.startCommand := by
  rcases u.startCommand_cases with ⟨-, h⟩ | ⟨-, -, h⟩ | ⟨-, -, h⟩ <;> rw [h] <;> exact { SameBeyondWrite.refl u with }

theorem SameBeyondWrite.regWrite (u : State) (w : Word) (r : Reg) : SameBeyondWrite u (u.regWrite w r) := by
  cases r <;> exact { SameBeyondWrite.refl u with }

theorem SameBeyondWrite.hostWrite (u : State) (a : BitVec 10) (w : Word) : SameBeyondWrite u (u.hostWrite a w) := by
  rcases u.hostWrite_cases a w with h | h | ⟨-, h⟩ <;> rw [h]
  · exact .refl u
  · exact .startCommand u
  · exact .regWrite u w _

/-- Only the write of a step entry stores in the table (R28, R53). -/
theorem State.regWrite_table {r : Reg} (hr : ∀ i, r ≠ .step i) (s : State) (w : Word) :
    (s.regWrite w r).table = s.table := by
  cases r with
  | step i => exact absurd rfl (hr i)
  | _ => rfl

/-- A write of a slot outside the step table leaves the table (R53, R56). -/
theorem State.hostWrite_table (hr : ∀ i, regOf s.par.stepDepth a ≠ .step i) (w : Word) :
    (s.hostWrite a w).table = s.table := by
  rcases s.hostWrite_cases a w with h | h | ⟨-, h⟩ <;> rw [h]
  · exact s.startCommand_table
  · exact State.regWrite_table hr s w

/-- Settles O12: a write is a register write, a START or nothing, and each has its part in the frame. -/
theorem writeStoresOneEntry : Obligations.WriteStoresOneEntry := by
  intro s t a w hs
  cases hs
  have hk := SameBeyondWrite.hostWrite s a w
  refine ⟨fun i hi hf => ?_, fun h => ?_, hk.par, hk.now, hk.es, hk.code, hk.lastCode, hk.inputs, hk.out,
    hk.outstanding, hk.requests, hk.wire, hk.draws⟩
  · have hw : s.hostWrite a w = s.regWrite w (.step i) := Host.Outcome.next.inj (exec_wr_stopped hf hi nofun w)
    rw [hw]
    exact ⟨Memory.read_write_same _ _ _, fun j hj => Memory.read_write_other _ _ _ _ hj⟩
  · rcases h with hr | hf
    · exact State.hostWrite_table hr w
    · rw [State.hostWrite_running a w hf]

/-! ### START in STOPPED (R56, R57) -/

theorem State.startCommand_stopped (hf : s.fsm = .stopped) : s.startCommand = s.launch s.mode s.startError := by
  rw [State.startCommand, if_neg (by simp [hf])]

/-- A START in STOPPED whose checks pass begins a run (R56). -/
theorem exec_start_accepted (u : BitVec 24) (hf : s.fsm = .stopped) (he : s.startError = .none) :
    exec (.start u) s = .next (s.accept s.mode) := by
  rw [exec_start, State.startCommand_stopped hf, State.launch, if_pos he]

/-- A START in STOPPED with a failed check is rejected (R57). -/
theorem exec_start_rejected (u : BitVec 24) (hf : s.fsm = .stopped) (he : s.startError = e) (hne : e ≠ .none) :
    exec (.start u) s = .next (s.reject e) := by
  rw [exec_start, State.startCommand_stopped hf, State.launch, he, if_neg hne]

/-- Settles O13: the conditions are the four checks, so the START is accepted. -/
theorem acceptedStartBeginsARun : Obligations.AcceptedStartBeginsARun := by
  intro u s hf ha hm hftw hlen
  have he : s.startError = .none :=
    State.startError_none.mpr ⟨ha, hm, hftw, fun h0 => (hlen h0).imp_left Nat.one_le_iff_ne_zero.mp⟩
  exact exec_start_accepted u hf he

/-! The first failed check (R56, R89). -/

theorem State.startError_unavailable (h : s.pins.tpAvail = false) : s.startError = .acquisition := by
  rw [State.startError, h]; rfl

theorem State.startError_available (h : s.pins.tpAvail = true) : s.startError = s.modeError s.mode := if_pos h

theorem State.modeError_reserved (s : State) (hm : m = 3) : s.modeError m = .mode := if_pos hm

theorem State.modeError_frequency (hm : m ≠ 3) (hf : s.ftw = 0) : s.modeError m = .frequency := by
  rw [State.modeError, if_neg hm, if_pos hf]

theorem State.modeError_parameter (hm : m = 0) (hf : s.ftw ≠ 0)
    (hl : s.stepLen.toNat = 0 ∨ s.par.stepDepth < s.stepLen.toNat) : s.modeError m = .parameter := by
  rw [State.modeError, if_neg (by simp [hm]), if_neg hf, if_pos ⟨hm, hl⟩]

/-- After a rejection STATUS reads as the code of the error alone, in bits 7 to 4 (R21, R45, R57). -/
theorem State.reject_status (hf : s.fsm = .stopped) (e : ErrKind) :
    (s.reject e).status = BitVec.ofNat 32 (16 * e.code.toNat) := by
  rw [State.status, State.reject_errCount, State.reject_err, State.reject_done,
    State.running_congr (s.reject_fsm e), State.running_eq_false.mpr hf]
  cases e <;> rfl

/-- A rejected START leaves the state with the error recorded, and STATUS as its code. -/
theorem exec_start_records (u : BitVec 24) (hf : s.fsm = .stopped) (he : s.startError = e) (hne : e ≠ .none)
    (hw : BitVec.ofNat 32 (16 * e.code.toNat) = w) :
    ∃ t, exec (.start u) s = .next t ∧ t = { s with err := e, done := false, errCount := 0 } ∧ t.status = w :=
  ⟨_, exec_start_rejected u hf he hne, rfl, (State.reject_status hf e).trans hw⟩

/-- Settles O14: each case is one failed check with those before it passed. -/
theorem rejectedStartRecordsTheFirstError : Obligations.RejectedStartRecordsTheFirstError := by
  rintro u s e w hf (⟨ha, rfl, rfl⟩ | ⟨ha, hm, rfl, rfl⟩ | ⟨ha, hm, hftw, rfl, rfl⟩ | ⟨ha, hm, hftw, hl, rfl, rfl⟩)
  · exact exec_start_records u hf (State.startError_unavailable ha) nofun rfl
  all_goals have he := State.startError_available ha
  · exact exec_start_records u hf (he.trans (s.modeError_reserved hm)) nofun rfl
  · exact exec_start_records u hf (he.trans (State.modeError_frequency hm hftw)) nofun rfl
  · exact exec_start_records u hf (he.trans (State.modeError_parameter hm hftw hl)) nofun rfl

/-! ### A run's configuration (R54) -/

/-- Settles O34: during a run neither the host's part of a cycle nor the controller's changes the configuration. -/
theorem runKeepsItsConfiguration : Obligations.RunKeepsItsConfiguration := by
  intro s t hf hr hs
  cases (step_live hr).symm.trans hs
  have hl := (s.loopPhase_sameBase s.hostPhase).config
  obtain ⟨r, d, hh⟩ := State.hostPhase_running hf
  rw [hh] at hl ⊢
  exact hl

/-! ### Reads (R52) -/

/-- The codes of STATUS.ERR (R45). -/
theorem ErrKind.code_eq_ite (e : ErrKind) :
    e.code = if e = .acquisition then 1 else if e = .transportSelect then 2
      else if e = .transportWrite then 3 else if e = .parameter then 4
      else if e = .frequency then 5 else if e = .mode then 6 else 0 := by
  cases e <;> rfl

theorem State.running_eq_decide (s : State) : s.running = decide (s.fsm ≠ .stopped) := by
  rw [Bool.eq_iff_iff, State.running_eq_true, decide_eq_true_iff]

/-- STATUS with its codes and RUNNING written out (R21, R45). -/
theorem State.status_eq (s : State) :
    s.status = (s.errCount
      ++ (if s.err = .acquisition then 1 else if s.err = .transportSelect then 2
        else if s.err = .transportWrite then 3 else if s.err = .parameter then 4
        else if s.err = .frequency then 5 else if s.err = .mode then 6 else 0 : BitVec 4)
      ++ (0 : BitVec 2) ++ BitVec.ofBool s.done ++ BitVec.ofBool (decide (s.fsm ≠ .stopped))).setWidth 32 := by
  rw [← ErrKind.code_eq_ite, ← State.running_eq_decide, State.status]

/-- Settles O5: each slot below 0x00B names its register, and the others outside the step table are reserved. -/
theorem readReturnsTheRegister : Obligations.ReadReturnsTheRegister := by
  intro s d
  refine ⟨exec_rd_of_regRead (r := .ctrl) rfl rfl rfl d, exec_rd_of_regRead (r := .cmd) rfl rfl rfl d,
    exec_rd_of_regRead (r := .lo) rfl rfl rfl d, exec_rd_of_regRead (r := .hi) rfl rfl rfl d,
    exec_rd_of_regRead (r := .ftw) rfl rfl rfl d, exec_rd_of_regRead (r := .repeatN) rfl rfl rfl d,
    exec_rd_of_regRead (r := .stepLen) rfl rfl rfl d, exec_rd_of_regRead (r := .status) rfl s.status_eq rfl d,
    exec_rd_of_regRead (r := .cycles) rfl rfl rfl d, exec_rd_of_regRead (r := .lastCode) rfl rfl rfl d,
    exec_rd_of_regRead (r := .stepIdx) rfl rfl rfl d, fun a ha => ?_⟩
  exact exec_rd_of_regRead (r := .reserved) (regOf_reserved (by omega)) rfl rfl d

/-- Settles O6: the slot names the entry, and a free value is drawn exactly where nothing has been written. -/
theorem readOfStepEntry : Obligations.ReadOfStepEntry := by
  intro s d i a hi ha
  have hr : regOf s.par.stepDepth a = .step i := regOf_step hi ha
  refine ⟨fun w hw => ?_, fun hn => ⟨s.stepEntry i, ?_⟩⟩
  · obtain ⟨hread, hafter⟩ := State.stepEntry_written hw
    exact exec_rd_of_regRead hr hread hafter d
  · obtain ⟨-, hafter⟩ := State.stepEntry_unwritten hn
    rw [exec_rd, State.hostRead, hr, State.afterRegRead, hafter]
    rfl

/-! ### Writes in STOPPED (R53) -/

/-- The slots that ignore a write: the RO registers and the reserved slots (R14, R53). -/
theorem regOf_ignored_cases {depth : Nat} (h7 : 0x007 ≤ a.toNat)
    (h : a.toNat < 0x100 ∨ 0x100 + depth ≤ a.toNat) :
    regOf depth a = .status ∨ regOf depth a = .cycles ∨ regOf depth a = .lastCode ∨ regOf depth a = .stepIdx
      ∨ regOf depth a = .reserved := by
  have ha : a = 7 ∨ a = 8 ∨ a = 9 ∨ a = 10 ∨ 0x00B ≤ a.toNat := by bv_omega
  rcases ha with rfl | rfl | rfl | rfl | ha
  · exact .inl rfl
  · exact .inr (.inl rfl)
  · exact .inr (.inr (.inl rfl))
  · exact .inr (.inr (.inr (.inl rfl)))
  · exact .inr (.inr (.inr (.inr (regOf_reserved ⟨ha, h⟩))))

/-- Settles O7: each slot names its register, and the write is the register's. -/
theorem writeStoresWhileStopped : Obligations.WriteStoresWhileStopped := by
  intro s w hf
  refine ⟨exec_wr_stopped (r := .ctrl) hf rfl nofun w, exec_wr_stopped (r := .lo) hf rfl nofun w,
    exec_wr_stopped (r := .hi) hf rfl nofun w, exec_wr_stopped (r := .ftw) hf rfl nofun w,
    exec_wr_stopped (r := .repeatN) hf rfl nofun w, exec_wr_stopped (r := .stepLen) hf rfl nofun w,
    fun i a hi ha => exec_wr_stopped hf (regOf_step hi ha) nofun w, fun a h7 h => ?_⟩
  rcases regOf_ignored_cases h7 h with hr | hr | hr | hr | hr <;> exact exec_wr_stopped hf hr nofun w

/-! ### Commands (R43, R53, R55, R58) -/

/-- The opcode of a command word is its low byte (R43). -/
theorem opcode_eq_start_iff (w : Word) : w.extractLsb' 0 8 = startOpcode ↔ w.toNat % 256 = 1 := by
  rw [← BitVec.toNat_inj, field_toNat, Nat.pow_zero, Nat.div_one]
  rfl

/-- Settles O9: the write is the command of its low byte. -/
theorem writeToCmdIsACommand : Obligations.WriteToCmdIsACommand := by
  intro s w
  have hcmd : exec (.wr 0x001 w) s = .next (s.command w) := congrArg Host.Outcome.next (State.hostWrite_cmd w)
  refine ⟨fun h u => ?_, fun h => ?_⟩
  · rw [hcmd, State.command, if_pos ((opcode_eq_start_iff w).mpr h), exec_start]
  · rw [hcmd, State.command, if_neg (mt (opcode_eq_start_iff w).mp h)]

/-- Settles O10: the operation has no effect, and the opcode alone tells START from NOP. -/
theorem nopChangesNothing : Obligations.NopChangesNothing := by
  refine ⟨fun u o s => rfl, fun w h => ⟨w.extractLsb' 8 24, w.extractLsb' 0 8, ?_⟩⟩
  rw [decode, decodeHostOp_command, decodeCommand_nop (mt (opcode_eq_start_iff w).mp h)]

/-- Settles O15: a run in progress makes START do nothing. -/
theorem startDuringARunIsIgnored : Obligations.StartDuringARunIsIgnored := by
  intro u s hf
  rw [exec_start, State.startCommand, if_pos (State.running_eq_true.mpr hf)]

end Sys2Proof.Machine

end

section

namespace Sys2Proof.Machine

variable {fs k n : Nat} {v w : Int}

/-! ### The quantizer in each range of voltages (R59) -/

theorem quantizeNat_of_neg (h : v < 0) : quantizeNat fs v = 0 := if_pos h

theorem quantizeNat_of_fullScale_lt (h : (fs : Int) < v) : quantizeNat fs v = 4095 := by
  rw [quantizeNat, if_neg (by omega), if_pos h]

theorem quantizeNat_of_le_fullScale (h : n ≤ fs) : quantizeNat fs n = min (n * 4096 / fs) 4095 := by
  rw [quantizeNat, if_neg (by omega), if_neg (by omega), Int.toNat_natCast]

/-- At full scale the quotient is 4096, which the minimum clamps. -/
theorem quantizeNat_fullScale (hfs : 1 ≤ fs) : quantizeNat fs fs = 4095 := by
  rw [quantizeNat_of_le_fullScale le_rfl, Nat.mul_div_cancel_left 4096 hfs]
  rfl

/-- Below full scale the quotient needs no clamp. -/
theorem quantizeNat_of_lt_fullScale (h : n < fs) : quantizeNat fs n = n * 4096 / fs := by
  have hlt : n * 4096 / fs < 4096 := Nat.div_lt_of_lt_mul (by omega)
  rw [quantizeNat_of_le_fullScale h.le, min_eq_left (by omega)]

theorem quantizeNat_le : quantizeNat fs v ≤ 4095 := by
  unfold quantizeNat
  split_ifs
  · exact Nat.zero_le _
  · exact le_rfl
  · exact min_le_right _ _

/-- The code loses nothing of the number, which is within 12 bits. -/
theorem quantize_toNat : (quantize fs v).toNat = quantizeNat fs v :=
  (BitVec.toNat_ofNat _ _).trans (Nat.mod_eq_of_lt (Nat.lt_succ_of_le quantizeNat_le))

/-- Settles O44: each clause is the quantizer in one range of voltages. -/
theorem quantizerRangeAndClamps : Obligations.QuantizerRangeAndClamps := by
  intro fs v hfs
  refine ⟨quantizeNat_le, quantize_toNat, quantizeNat_of_neg, quantizeNat_of_fullScale_lt,
    quantizeNat_fullScale hfs, fun h0 hlt => ?_⟩
  lift v to ℕ using h0
  rw [quantizeNat_of_lt_fullScale (Int.ofNat_lt.mp hlt)]
  rfl

/-! ### The voltages of a code (R60) -/

/-- The least voltage whose code is at least `k`, ceil(k * FS / 4096): `le_quantizeNat_iff` says so. -/
def codeThreshold (fs k : Nat) : Nat := (k * fs + 4095) / 4096

theorem codeThreshold_le_iff : codeThreshold fs k ≤ n ↔ k * fs ≤ n * 4096 := by
  unfold codeThreshold
  omega

@[simp] theorem codeThreshold_zero : codeThreshold fs 0 = 0 := by
  simp [codeThreshold]

theorem codeThreshold_le_fullScale (hk : k ≤ 4095) : codeThreshold fs k ≤ fs :=
  codeThreshold_le_iff.mpr ((Nat.mul_le_mul_right fs (by omega)).trans_eq (Nat.mul_comm 4096 fs))

/-- The quantizer reaches a code above 0 exactly from the code's threshold. -/
theorem le_quantizeNat_iff (hfs : 1 ≤ fs) (hk : 1 ≤ k) (hk' : k ≤ 4095) :
    k ≤ quantizeNat fs v ↔ (codeThreshold fs k : Int) ≤ v := by
  rcases lt_or_ge v 0 with hneg | h0
  · rw [quantizeNat_of_neg hneg]
    omega
  rcases lt_or_ge (fs : Int) v with hover | hle
  · have hthreshold := codeThreshold_le_fullScale (fs := fs) hk'
    rw [quantizeNat_of_fullScale_lt hover]
    omega
  lift v to ℕ using h0
  rw [quantizeNat_of_le_fullScale (Int.ofNat_le.mp hle), le_min_iff, Nat.le_div_iff_mul_le hfs, Int.ofNat_le,
    codeThreshold_le_iff, and_iff_left hk']

theorem quantizeNat_mono (hfs : 1 ≤ fs) (h : v ≤ w) : quantizeNat fs v ≤ quantizeNat fs w := by
  rcases Nat.eq_zero_or_pos (quantizeNat fs v) with h0 | hpos
  · exact h0 ▸ Nat.zero_le _
  · have hreached := (le_quantizeNat_iff hfs hpos quantizeNat_le).mp le_rfl
    exact (le_quantizeNat_iff hfs hpos quantizeNat_le).mpr (hreached.trans h)

/-- A code below the last is given between its threshold and the next one; code 0 also below 0. -/
theorem quantizeNat_eq_iff (hfs : 1 ≤ fs) (hk : k ≤ 4094) :
    quantizeNat fs v = k ↔
      (codeThreshold fs k : Int) ≤ v ∧ v ≤ (codeThreshold fs (k + 1) : Int) - 1 ∨ k = 0 ∧ v < 0 := by
  have hnext : k + 1 ≤ quantizeNat fs v ↔ (codeThreshold fs (k + 1) : Int) ≤ v :=
    le_quantizeNat_iff hfs (Nat.succ_pos k) (Nat.succ_le_succ hk)
  rcases Nat.eq_zero_or_pos k with rfl | hpos
  · rw [codeThreshold_zero]
    omega
  · have hown : k ≤ quantizeNat fs v ↔ (codeThreshold fs k : Int) ≤ v :=
      le_quantizeNat_iff hfs hpos (Nat.le_succ_of_le hk)
    omega

/-- The last code is given from its threshold on. -/
theorem quantizeNat_eq_last_iff (hfs : 1 ≤ fs) : quantizeNat fs v = 4095 ↔ (codeThreshold fs 4095 : Int) ≤ v := by
  rw [← le_quantizeNat_iff hfs (by decide) le_rfl]
  exact ⟨ge_of_eq, quantizeNat_le.antisymm⟩

/-- Settles O45: the order and the voltages of the codes both follow from the codes' thresholds. -/
theorem quantizerIsMonotoneWithItsThresholds : Obligations.QuantizerIsMonotoneWithItsThresholds := by
  intro fs v w hfs
  exact ⟨quantizeNat_mono hfs, fun k hk => quantizeNat_eq_iff hfs hk, quantizeNat_eq_last_iff hfs⟩

end Sys2Proof.Machine

end

section

namespace Sys2Proof.Machine

variable {e : Ticks} {ftw : Word} {F t f : ℝ}

/-! ### The phase as a real number of periods (R61, R62) -/

theorem phaseTheta_toNat (e : Ticks) (ftw : Word) : (phaseTheta e ftw).toNat = phaseProduct e ftw % 2 ^ 32 := by
  rw [phaseTheta, BitVec.toNat_ofNat, Nat.mod_mod]

theorem phasePeriods_lt (e : Ticks) (ftw : Word) : phasePeriods e ftw < 2 ^ 64 := by
  have hproduct : e.toNat * ftw.toNat ≤ (2 ^ 64 - 1) * (2 ^ 32 - 1) :=
    Nat.mul_le_mul (Nat.le_sub_one_of_lt e.isLt) (Nat.le_sub_one_of_lt ftw.isLt)
  rw [phasePeriods, phaseProduct]
  omega

theorem floor_phaseProduct (e : Ticks) (ftw : Word) :
    ⌊(phaseProduct e ftw : ℝ) / 2 ^ 32⌋ = (phasePeriods e ftw : ℤ) := by
  have h := Int.floor_div_natCast (phaseProduct e ftw : ℝ) (2 ^ 32)
  rwa [Int.floor_natCast, ← Int.natCast_ediv, Nat.cast_pow, Nat.cast_ofNat] at h

theorem fract_phaseProduct (e : Ticks) (ftw : Word) :
    Int.fract ((phaseProduct e ftw : ℝ) / 2 ^ 32) = ((phaseTheta e ftw).toNat : ℝ) / 2 ^ 32 := by
  have h := Int.fract_div_natCast_eq_div_natCast_mod (k := ℝ) (m := phaseProduct e ftw) (n := 2 ^ 32)
  rwa [← phaseTheta_toNat, Nat.cast_pow, Nat.cast_ofNat] at h

/-- Time times frequency is P / 2^32, whatever the clock: its frequency `F` cancels. -/
theorem seconds_mul_hertz (ht : t * F = e.toNat) (hf : f * 2 ^ 32 = ftw.toNat * F) :
    t * f = (phaseProduct e ftw : ℝ) / 2 ^ 32 := by
  rw [eq_div_iff (by norm_num), phaseProduct, Nat.cast_mul, ← ht, mul_assoc, hf]
  ring

theorem floor_seconds_mul_hertz (ht : t * F = e.toNat) (hf : f * 2 ^ 32 = ftw.toNat * F) :
    ⌊t * f⌋ = (phasePeriods e ftw : ℤ) := by
  rw [seconds_mul_hertz ht hf, floor_phaseProduct]

theorem fract_seconds_mul_hertz (ht : t * F = e.toNat) (hf : f * 2 ^ 32 = ftw.toNat * F) :
    Int.fract (t * f) = ((phaseTheta e ftw).toNat : ℝ) / 2 ^ 32 := by
  rw [seconds_mul_hertz ht hf, fract_phaseProduct]

theorem div_clock_mul_clock (hF : 0 < F) (ht : t = (e.toNat : ℝ) / F) : t * F = e.toNat := by
  rw [ht, div_mul_cancel₀ _ hF.ne']

theorem tuning_mul_two_pow (hf : f = (ftw.toNat : ℝ) * F / 2 ^ 32) : f * 2 ^ 32 = ftw.toNat * F := by
  rw [hf, div_mul_cancel₀ _ (by norm_num)]

/-- Settles O46: t·f is P / 2^32 by any clock, and n and theta are P's quotient and remainder. -/
theorem phaseIsTheFractionOfThePeriod : Obligations.PhaseIsTheFractionOfThePeriod := by
  intro e ftw
  refine ⟨fun F hF => ?_, phasePeriods_lt e ftw, fun t f ht hf => ?_⟩
  · have ht := div_clock_mul_clock (e := e) hF rfl
    have hf := tuning_mul_two_pow (ftw := ftw) (F := F) rfl
    exact ⟨(floor_seconds_mul_hertz ht hf).symm, (fract_seconds_mul_hertz ht hf).symm⟩
  · exact ⟨(floor_seconds_mul_hertz ht hf).symm, (fract_seconds_mul_hertz ht hf).symm⟩

end Sys2Proof.Machine

end

section

namespace Sys2Proof.Machine

variable {k : Nat}

/-! ### SIN14 from the quarter wave by its symmetries (R63, R83) -/

/-- The folding for an index that is a number. -/
theorem sin14_ofNat (impl : SineImpl) (hk : k < 16384) :
    sin14 impl (BitVec.ofNat 14 k) =
      if k < 4096 then (quarterWave impl k : Int)
      else if k < 8192 then (quarterWave impl (8192 - k) : Int)
      else if k < 12288 then -(quarterWave impl (k - 8192) : Int)
      else -(quarterWave impl (16384 - k) : Int) := by
  rw [sin14, foldQuarter_eq, BitVec.toNat_ofNat, Nat.mod_eq_of_lt hk]

theorem sin14_firstQuarter (impl : SineImpl) (hk : k ≤ 4096) :
    sin14 impl (BitVec.ofNat 14 k) = quarterWave impl k := by
  rw [sin14_ofNat impl (by omega)]
  rcases Nat.lt_or_eq_of_le hk with hlt | rfl
  · exact if_pos hlt
  · rfl

/-- The half wave is the same read backwards (S4). -/
theorem sin14_mirror (impl : SineImpl) (h0 : 0 < k) (hk : k < 8192) :
    sin14 impl (BitVec.ofNat 14 (8192 - k)) = sin14 impl (BitVec.ofNat 14 k) := by
  rcases le_total k 4096 with hle | hge
  · rw [sin14_firstQuarter impl hle, sin14_ofNat impl (by omega)]
    split_ifs
    · omega
    · rw [Nat.sub_sub_self hk.le]
    all_goals omega
  · rw [sin14_firstQuarter impl (by omega), sin14_ofNat impl (by omega)]
    split_ifs
    · omega
    · rfl

/-- The second half wave is the first one negated (S4). -/
theorem sin14_halfTurn (impl : SineImpl) (hk : k < 8192) :
    sin14 impl (BitVec.ofNat 14 (k + 8192)) = -sin14 impl (BitVec.ofNat 14 k) := by
  rw [sin14_ofNat impl (by omega), sin14_ofNat impl (by omega), if_neg (by omega), if_neg (by omega)]
  rcases Nat.lt_or_ge k 4096 with hlt | hge
  · rw [if_pos (by omega), if_pos hlt, Nat.add_sub_cancel]
  · rw [if_neg (by omega), if_neg (by omega), if_pos hk,
      show 16384 - (k + 8192) = 8192 - k by omega]

/-- The exact sine has the same two symmetries. -/
theorem sin_index_mirror (hk : k ≤ 8192) :
    Real.sin (2 * Real.pi * ((8192 - k : Nat) : ℝ) / 16384) = Real.sin (2 * Real.pi * (k : ℝ) / 16384) := by
  rw [← Real.sin_pi_sub, Nat.cast_sub hk]
  congr 1
  push_cast
  ring

theorem sin_index_halfTurn (k : Nat) :
    Real.sin (2 * Real.pi * ((k + 8192 : Nat) : ℝ) / 16384) = -Real.sin (2 * Real.pi * (k : ℝ) / 16384) := by
  rw [← Real.sin_add_pi]
  congr 1
  push_cast
  ring

/-- On the first half wave SIN14 is an entry of the quarter wave, and the exact sine that entry's sine. -/
theorem sin14_halfWave (impl : SineImpl) (hk : k < 8192) :
    ∃ j ≤ 4096, sin14 impl (BitVec.ofNat 14 k) = quarterWave impl j
      ∧ Real.sin (2 * Real.pi * (k : ℝ) / 16384) = Real.sin (2 * Real.pi * (j : ℝ) / 16384) := by
  rcases le_total k 4096 with hle | hge
  · exact ⟨k, hle, sin14_firstQuarter impl hle, rfl⟩
  · have hmirror : 8192 - k ≤ 4096 := by omega
    refine ⟨8192 - k, hmirror, ?_, (sin_index_mirror hk.le).symm⟩
    rw [← sin14_mirror impl (by omega) hk, sin14_firstQuarter impl hmirror]

/-- On the whole wave both are so up to one sign. -/
theorem sin14_wave (impl : SineImpl) (k : BitVec 14) :
    ∃ j ≤ 4096, ∃ σ : ℤ, |σ| = 1 ∧ sin14 impl k = σ * quarterWave impl j
      ∧ Real.sin (2 * Real.pi * (k.toNat : ℝ) / 16384) = σ * Real.sin (2 * Real.pi * (j : ℝ) / 16384) := by
  obtain ⟨n, hn, rfl⟩ : ∃ n < 16384, k = BitVec.ofNat 14 n := ⟨k.toNat, k.isLt, by simp⟩
  rw [BitVec.toNat_ofNat, Nat.mod_eq_of_lt hn]
  rcases Nat.lt_or_ge n 8192 with hlt | hge
  · obtain ⟨j, hj, hvalue, hsine⟩ := sin14_halfWave impl hlt
    exact ⟨j, hj, 1, abs_one, by rw [hvalue, one_mul], by rw [hsine, Int.cast_one, one_mul]⟩
  · obtain ⟨m, rfl⟩ := Nat.exists_eq_add_of_le' hge
    have hm : m < 8192 := by omega
    obtain ⟨j, hj, hvalue, hsine⟩ := sin14_halfWave impl hm
    refine ⟨j, hj, -1, by decide, ?_, ?_⟩
    · rw [sin14_halfTurn impl hm, hvalue, neg_one_mul]
    · rw [sin_index_halfTurn, hsine, Int.cast_neg, Int.cast_one, neg_one_mul]

/-- S1 of R63. -/
theorem abs_sin14_le (impl : SineImpl) (k : BitVec 14) : |sin14 impl k| ≤ 32767 := by
  obtain ⟨j, hj, σ, hσ, hvalue, -⟩ := sin14_wave impl k
  rw [hvalue, abs_mul, hσ, one_mul, Nat.abs_cast]
  exact_mod_cast quarterWave_le impl hj

/-- S3 of R63. -/
theorem sin14_close (impl : SineImpl) (k : BitVec 14) :
    |(sin14 impl k : ℝ) - 32767 * Real.sin (2 * Real.pi * (k.toNat : ℝ) / 16384)| ≤ (sineErr impl : ℝ) := by
  obtain ⟨j, hj, σ, hσ, hvalue, hsine⟩ := sin14_wave impl k
  have hσ' : |(σ : ℝ)| = 1 := by exact_mod_cast hσ
  calc |(sin14 impl k : ℝ) - 32767 * Real.sin (2 * Real.pi * (k.toNat : ℝ) / 16384)|
      = |(σ : ℝ) * (quarterWave impl j - 32767 * Real.sin (2 * Real.pi * (j : ℝ) / 16384))| := by
        rw [hvalue, hsine]
        push_cast
        ring_nf
    _ = |(quarterWave impl j : ℝ) - 32767 * Real.sin (2 * Real.pi * (j : ℝ) / 16384)| := by
        rw [abs_mul, hσ', one_mul]
    _ ≤ sineErr impl := quarterWave_close impl hj

/-! S2 of R63. -/

theorem sin14_zero (impl : SineImpl) : sin14 impl 0 = 0 := by
  have h := sin14_firstQuarter impl (Nat.zero_le 4096)
  rwa [quarterWave_zero] at h

theorem sin14_quarter (impl : SineImpl) : sin14 impl 4096 = 32767 := by
  have h := sin14_firstQuarter impl (le_refl 4096)
  rwa [quarterWave_quarter] at h

theorem sin14_half (impl : SineImpl) : sin14 impl 8192 = 0 :=
  (sin14_halfTurn impl (k := 0) (by decide)).trans (neg_eq_zero.mpr (sin14_zero impl))

theorem sin14_threeQuarters (impl : SineImpl) : sin14 impl 12288 = -32767 :=
  (sin14_halfTurn impl (k := 4096) (by decide)).trans (congrArg Neg.neg (sin14_quarter impl))

/-! ### The ROM (R83, R84) -/

theorem romQ_eq_round (hk : k ≤ 4096) :
    (romQ k : ℤ) = round (32767 * Real.sin (2 * Real.pi * (k : ℝ) / 16384)) := by
  have hclose := abs_lt.mp (romQ_close k hk)
  rw [eq_comm, round_eq_iff, Int.cast_natCast, Set.mem_Ico]
  constructor <;> linarith

/-- The sine rises on the first quarter. -/
theorem sin_index_le_succ (hk : k < 4096) :
    Real.sin (2 * Real.pi * (k : ℝ) / 16384) ≤ Real.sin (2 * Real.pi * ((k + 1 : Nat) : ℝ) / 16384) := by
  have hpi := Real.pi_pos
  have hk' : ((k + 1 : Nat) : ℝ) ≤ 4096 := by exact_mod_cast hk
  have hquarter : 2 * Real.pi * ((k + 1 : Nat) : ℝ) / 16384 ≤ Real.pi / 2 := by
    nlinarith
  refine Real.sin_le_sin_of_le_of_le_pi_div_two ?_ hquarter ?_
  · exact (neg_nonpos.mpr (by positivity)).trans (by positivity)
  · gcongr
    exact Nat.le_succ k

theorem romQ_le_succ (hk : k < 4096) : romQ k ≤ romQ (k + 1) := by
  have hround : (romQ k : ℤ) ≤ romQ (k + 1) := by
    rw [romQ_eq_round hk.le, romQ_eq_round hk, round_eq, round_eq]
    gcongr
    exact sin_index_le_succ hk
  exact_mod_cast hround

/-- R84's check value. -/
theorem romQ_sum : ((List.range 4097).map romQ).sum = 85459469 := by decide +kernel

/-- Settles O47: the quarter wave's values carried to the whole wave by its symmetries, and the ROM as the rounded
sine, which rises with the sine. -/
theorem sineTableRangeAndSymmetry : Obligations.SineTableRangeAndSymmetry := by
  refine ⟨fun impl => ⟨fun k => abs_le.mp (abs_sin14_le impl k), sin14_zero impl, sin14_quarter impl,
      sin14_half impl, sin14_threeQuarters impl, sin14_close impl, sineErr_le impl,
      fun k => sin14_mirror impl, fun k => sin14_halfTurn impl⟩,
    rfl, fun j => romQ_eq_round, fun j => romQ_le_succ, romQ_sum, fun k hk => ?_⟩
  have h := sin14_firstQuarter .lut hk
  rwa [BitVec.ofNat_toNat, BitVec.setWidth_eq] at h

end Sys2Proof.Machine

end

section

namespace Sys2Proof.Machine

variable {a n v lo hi : ℤ} {L H : Word}

/-! ### A floored share of the span stays between the ends (R64, R65) -/

/-- The share `a` of `n` parts of the way from `lo` to `hi`, rounded down, lies between them. -/
theorem share_between (ha : 0 ≤ a) (han : a ≤ n) (hn : 0 < n) :
    min lo hi ≤ lo + a * (hi - lo) / n ∧ lo + a * (hi - lo) / n ≤ max lo hi := by
  rcases le_total lo hi with hle | hge
  · rw [min_eq_left hle, max_eq_right hle]
    have hlow : 0 ≤ a * (hi - lo) / n := Int.ediv_nonneg (mul_nonneg ha (by omega)) hn.le
    have hhigh : a * (hi - lo) / n ≤ hi - lo :=
      Int.ediv_le_of_le_mul hn (by nlinarith)
    omega
  · rw [min_eq_right hge, max_eq_left hge]
    have hlow : hi - lo ≤ a * (hi - lo) / n := (Int.le_ediv_iff_mul_le hn).mpr (by nlinarith)
    have hhigh : a * (hi - lo) / n ≤ 0 := Int.ediv_le_of_le_mul hn (by nlinarith)
    omega

/-- A voltage between two words fits 32 bits. -/
theorem toInt_ofInt_of_between (hlow : min L.toInt H.toInt ≤ v) (hhigh : v ≤ max L.toInt H.toInt) :
    (BitVec.ofInt 32 v).toInt = v := by
  have hL := L.le_toInt
  have hL' := L.toInt_lt
  have hH := H.le_toInt
  have hH' := H.toInt_lt
  exact BitVec.toInt_ofInt_eq_self (by decide) (by omega) (by omega)

theorem sineV_between (impl : SineImpl) (L H theta : Word) :
    min L.toInt H.toInt ≤ sineV impl L H theta ∧ sineV impl L H theta ≤ max L.toInt H.toInt := by
  obtain ⟨hlow, hhigh⟩ := abs_le.mp (abs_sin14_le impl (sineIndex theta))
  exact share_between (by omega) (by omega) (by decide)

theorem sawV_between (L H theta : Word) :
    min L.toInt H.toInt ≤ sawV L H theta ∧ sawV L H theta ≤ max L.toInt H.toInt :=
  share_between (by omega) (by omega) (by decide)

/-! The values of the blend at the ends and the middle of SIN14's range. -/

theorem sineBlend_top : sineBlend 32767 lo hi = hi := by
  rw [sineBlend]
  omega

theorem sineBlend_bottom : sineBlend (-32767) lo hi = lo := by
  rw [sineBlend]
  omega

theorem sineBlend_middle : sineBlend 0 lo hi = lo + (hi - lo) / 2 := by
  rw [sineBlend]
  omega

/-- Settles O48: the blend is a share of the span, and the corner phases have SIN14's exact values. -/
theorem sineVoltageStaysBetweenLoAndHi : Obligations.SineVoltageStaysBetweenLoAndHi := by
  intro impl lo hi theta
  obtain ⟨hlow, hhigh⟩ := sineV_between impl lo hi theta
  refine ⟨hlow, hhigh, toInt_ofInt_of_between hlow hhigh, ?_, ?_, ?_⟩
  · rw [sineV, show sineIndex 0x40000000 = 4096 by decide, sin14_quarter, sineBlend_top]
  · rw [sineV, show sineIndex 0xC0000000 = 12288 by decide, sin14_threeQuarters, sineBlend_bottom]
  · rw [sineV, show sineIndex 0 = 0 by decide, sin14_zero, sineBlend_middle]

/-! ### The sawtooth at its ends (R65) -/

theorem sawV_start (L H : Word) : sawV L H 0 = L.toInt := by
  simp [sawV]

theorem sawV_of_eq (L theta : Word) : sawV L L theta = L.toInt := by
  simp [sawV]

/-- The last phase is one part short of HI, which the floor takes from a rising ramp alone. -/
theorem sawV_last (L H : Word) :
    sawV L H 0xFFFFFFFF = if L.toInt < H.toInt then H.toInt - 1 else H.toInt := by
  have hL := L.le_toInt
  have hL' := L.toInt_lt
  have hH := H.le_toInt
  have hH' := H.toInt_lt
  rw [sawV, show (0xFFFFFFFF : Word).toNat = 2 ^ 32 - 1 by decide]
  split_ifs <;> omega

theorem sawV_lt_of_rising (theta : Word) (h : L.toInt < H.toInt) : sawV L H theta < H.toInt := by
  have hshare : (theta.toNat : ℤ) * (H.toInt - L.toInt) / 2 ^ 32 < H.toInt - L.toInt :=
    Int.ediv_lt_of_lt_mul (by decide) (by nlinarith [theta.isLt])
  rw [sawV]
  omega

/-- Settles O49: the ramp is a share of the span below the whole. -/
theorem sawtoothVoltageRampsFromLoToHi : Obligations.SawtoothVoltageRampsFromLoToHi := by
  intro lo hi theta
  obtain ⟨hlow, hhigh⟩ := sawV_between lo hi theta
  refine ⟨fun hrise => ?_, fun hfall => ?_, ?_, sawV_start lo hi, toInt_ofInt_of_between hlow hhigh⟩
  · rw [min_eq_left hrise.le] at hlow
    exact ⟨hlow, sawV_lt_of_rising theta hrise, (sawV_last lo hi).trans (if_pos hrise)⟩
  · rw [min_eq_right hfall.le] at hlow
    rw [max_eq_left hfall.le] at hhigh
    exact ⟨hlow, hhigh, (sawV_last lo hi).trans (if_neg hfall.not_gt)⟩
  · rintro rfl
    exact sawV_of_eq lo theta

end Sys2Proof.Machine

end

section

namespace Sys2Proof.Machine

variable {e : Ticks} {ftw : Word} {F t f : ℝ}

/-! ### The samplers and the source's real formulas (R67) -/

/-- Floor division of integers is the floor of the real quotient. -/
theorem cast_div_bounds (a : ℤ) {n : ℤ} (hn : 0 < n) :
    (a : ℝ) / n - 1 < ((a / n : ℤ) : ℝ) ∧ ((a / n : ℤ) : ℝ) ≤ (a : ℝ) / n := by
  have h := Int.floor_div_cast_of_nonneg hn.le (a : ℝ)
  rw [Int.floor_intCast] at h
  rw [← h]
  exact ⟨Int.sub_one_lt_floor _, Int.floor_le _⟩

/-- The sawtooth is the real ramp, rounded down. -/
theorem sawV_bounds (lo hi theta : Word) :
    lo.toInt + (theta.toNat : ℝ) / 2 ^ 32 * (hi.toInt - lo.toInt) - 1 < (sawV lo hi theta : ℝ)
      ∧ (sawV lo hi theta : ℝ) ≤ lo.toInt + (theta.toNat : ℝ) / 2 ^ 32 * (hi.toInt - lo.toInt) := by
  obtain ⟨hlow, hhigh⟩ := cast_div_bounds (theta.toNat * (hi.toInt - lo.toInt)) (n := 2 ^ 32) (by decide)
  rw [sawV]
  push_cast at hlow hhigh ⊢
  constructor <;> linarith

/-- The source's sawtooth is the ramp over the fraction of the period. -/
theorem source_sawtooth (hf : f ≠ 0) (D L : ℝ) :
    (t - (⌊t * f⌋ : ℝ) * (1 / f)) * D * f + L = L + Int.fract (t * f) * D := by
  rw [Int.fract]
  field_simp
  ring

/-- Settles O50: the source's ramp runs over theta / 2^32, and the sampler rounds it down. -/
theorem sawtoothFollowsTheSourceFormula : Obligations.SawtoothFollowsTheSourceFormula := by
  intro lo hi e ftw F t f vsrc hF hftw ht hf hvsrc
  have hf0 : f ≠ 0 := by
    have hpos : 0 < ftw.toNat := Nat.pos_of_ne_zero fun h => hftw (BitVec.eq_of_toNat_eq h)
    rw [hf]
    positivity
  rw [hvsrc, source_sawtooth hf0, fract_seconds_mul_hertz (div_clock_mul_clock hF ht) (tuning_mul_two_pow hf)]
  exact sawV_bounds lo hi (phaseTheta e ftw)

/-- The sine voltage is the real blend, rounded down. -/
theorem sineBlend_bounds (s lo hi : ℤ) :
    (lo : ℝ) + (s + 32767) * (hi - lo) / 65534 - 1 < (sineBlend s lo hi : ℝ)
      ∧ (sineBlend s lo hi : ℝ) ≤ lo + (s + 32767) * (hi - lo) / 65534 := by
  obtain ⟨hlow, hhigh⟩ := cast_div_bounds ((s + 32767) * (hi - lo)) (n := 65534) (by decide)
  rw [sineBlend]
  push_cast at hlow hhigh ⊢
  constructor <;> linarith

/-- A SIN14 value within `d` of 32767 times the sine `x` gives a voltage within |HI - LO| / 2 · d / 32767 + 1 of the
exact one. -/
theorem sineBlend_close {s lo hi : ℤ} {x d : ℝ} (h : |(s : ℝ) - 32767 * x| ≤ d) :
    |(sineBlend s lo hi : ℝ) - ((x + 1) * ((hi : ℝ) - lo) / 2 + lo)| ≤ |(hi : ℝ) - lo| / 2 * (d / 32767) + 1 := by
  obtain ⟨hlow, hhigh⟩ := sineBlend_bounds s lo hi
  have hfloor : |(sineBlend s lo hi : ℝ) - (lo + (s + 32767) * (hi - lo) / 65534)| ≤ 1 :=
    abs_le.mpr ⟨by linarith, by linarith⟩
  have hspan : |((hi : ℝ) - lo) / 65534 * (s - 32767 * x)| ≤ |(hi : ℝ) - lo| / 65534 * d := by
    rw [abs_mul, abs_div, abs_of_pos (show (0 : ℝ) < 65534 by norm_num)]
    gcongr
  calc |(sineBlend s lo hi : ℝ) - ((x + 1) * ((hi : ℝ) - lo) / 2 + lo)|
      = |((sineBlend s lo hi : ℝ) - (lo + (s + 32767) * (hi - lo) / 65534))
          + ((hi : ℝ) - lo) / 65534 * (s - 32767 * x)| := by ring_nf
    _ ≤ 1 + |(hi : ℝ) - lo| / 65534 * d := (abs_add_le _ _).trans (add_le_add hfloor hspan)
    _ = |(hi : ℝ) - lo| / 2 * (d / 32767) + 1 := by ring

theorem sineIndex_toNat (theta : Word) : (sineIndex theta).toNat = theta.toNat / 2 ^ 18 := by
  rw [sineIndex, BitVec.extractLsb'_toNat, Nat.shiftRight_eq_div_pow, Nat.mod_eq_of_lt]
  omega

/-- The phase index drops less than 2^18 of the phase, so the sine moves by at most one index step. -/
theorem sin_sineIndex_close (theta : Word) :
    |Real.sin (2 * Real.pi * ((sineIndex theta).toNat : ℝ) / 16384)
        - Real.sin (2 * Real.pi * ((theta.toNat : ℝ) / 2 ^ 32))| ≤ 2 * Real.pi / 16384 := by
  have hdrop : |((sineIndex theta).toNat : ℝ) / 16384 - (theta.toNat : ℝ) / 2 ^ 32| ≤ 1 / 16384 := by
    have hindex := sineIndex_toNat theta
    have hlow : ((sineIndex theta).toNat : ℝ) * 2 ^ 18 ≤ theta.toNat := by
      exact_mod_cast (by omega : (sineIndex theta).toNat * 2 ^ 18 ≤ theta.toNat)
    have hhigh : (theta.toNat : ℝ) ≤ ((sineIndex theta).toNat + 1) * 2 ^ 18 := by
      exact_mod_cast (by omega : theta.toNat ≤ ((sineIndex theta).toNat + 1) * 2 ^ 18)
    rw [abs_le]
    constructor <;> linarith
  calc _ ≤ |2 * Real.pi * ((sineIndex theta).toNat : ℝ) / 16384 - 2 * Real.pi * ((theta.toNat : ℝ) / 2 ^ 32)| :=
        Real.abs_sin_sub_sin_le _ _
    _ = 2 * Real.pi * |((sineIndex theta).toNat : ℝ) / 16384 - (theta.toNat : ℝ) / 2 ^ 32| := by
        rw [mul_div_assoc, ← mul_sub, abs_mul, abs_of_pos Real.two_pi_pos]
    _ ≤ 2 * Real.pi * (1 / 16384) := mul_le_mul_of_nonneg_left hdrop Real.two_pi_pos.le
    _ = 2 * Real.pi / 16384 := by ring

/-- Whole periods do not change the sine. -/
theorem sin_two_pi_mul_fract (x : ℝ) : Real.sin (2 * Real.pi * Int.fract x) = Real.sin (2 * Real.pi * x) := by
  rw [Int.fract, ← Real.sin_sub_int_mul_two_pi (2 * Real.pi * x) ⌊x⌋]
  ring_nf

/-- Settles O51: the sampler's three errors are the phase index's, SIN14's and the floor's. -/
theorem sineFollowsTheSourceFormula : Obligations.SineFollowsTheSourceFormula := by
  intro impl lo hi e ftw F t f vsrc hF ht hf hvsrc hrom
  have hphase : Real.sin (2 * Real.pi * f * t) = Real.sin (2 * Real.pi * ((phaseTheta e ftw).toNat / 2 ^ 32)) := by
    rw [← fract_seconds_mul_hertz (div_clock_mul_clock hF ht) (tuning_mul_two_pow hf), sin_two_pi_mul_fract]
    ring_nf
  have hsine : |(sin14 impl (sineIndex (phaseTheta e ftw)) : ℝ)
      - 32767 * Real.sin (2 * Real.pi * ((phaseTheta e ftw).toNat / 2 ^ 32))|
      ≤ 32767 * (2 * Real.pi / 16384) + 1 / 2 := by
    have hindex := sin_sineIndex_close (phaseTheta e ftw)
    rw [abs_le] at hindex hrom ⊢
    constructor <;> linarith
  have hclose := sineBlend_close (lo := lo.toInt) (hi := hi.toInt) hsine
  rwa [add_div, mul_div_cancel_left₀ _ (show (32767 : ℝ) ≠ 0 by norm_num), ← hphase, ← hvsrc] at hclose

end Sys2Proof.Machine

end

section

namespace Sys2Proof.Machine

variable {s : State} {m : BitVec 2} {i : Nat}

/-! ### The mode's part of a cycle, state by state (R70, R71, R76) -/

theorem exec_modeStep (s : State) : exec .modeStep s = .next (s.modeCycle 0) := rfl

theorem exec_modeSine (s : State) : exec .modeSine s = .next (s.modeCycle 1) := rfl

theorem exec_modeSawtooth (s : State) : exec .modeSawtooth s = .next (s.modeCycle 2) := rfl

theorem State.modeCycle_pSample (hf : s.fsm = .pSample) (m : BitVec 2) : s.modeCycle m = s.sample m := by
  rw [State.modeCycle, hf]

theorem State.modeCycle_sEntry (hf : s.fsm = .sEntry) (m : BitVec 2) : s.modeCycle m = s.firstEntry := by
  rw [State.modeCycle, hf]

theorem State.modeCycle_sHold (hf : s.fsm = .sHold) (m : BitVec 2) : s.modeCycle m = s.hold := by
  rw [State.modeCycle, hf]

/-- A mode has no part in the REQ and WAIT states. -/
theorem State.modeCycle_transport (hf : s.fsm = .selReq ∨ s.fsm = .selWait ∨ s.fsm = .wrReq ∨ s.fsm = .wrWait)
    (m : BitVec 2) : s.modeCycle m = s := by
  rcases hf with hf | hf | hf | hf <;> rw [State.modeCycle, hf]

/-! ### P_SAMPLE (R70) -/

/-- The repeat policy lets the run go on: REPEAT = 0, or fewer periods or passes than REPEAT. -/
theorem State.repeatReached_eq_false {n : Nat} (h : s.repeatN.toNat = 0 ∨ n < s.repeatN.toNat) :
    s.repeatReached n = false := by
  rw [Bool.eq_false_iff, ne_eq, State.repeatReached_iff]
  omega

/-- A P_SAMPLE below the repeat count issues the sample. -/
theorem State.sample_of_below (h : s.repeatN.toNat = 0 ∨ phasePeriods s.elapsed s.ftw < s.repeatN.toNat)
    (m : BitVec 2) : s.sample m = s.countPeriods.issue (s.periodicV m) := by
  rw [State.sample, State.repeatReached_eq_false h]
  rfl

/-- A P_SAMPLE at the repeat count ends the run. -/
theorem State.sample_of_reached (h0 : 0 < s.repeatN.toNat) (h : s.repeatN.toNat ≤ phasePeriods s.elapsed s.ftw)
    (m : BitVec 2) : s.sample m = s.countPeriods.stop .none 0 := by
  rw [State.sample, if_pos (State.repeatReached_iff.mpr ⟨h0, h⟩)]

/-- The sine sampler's phase index is theta[31:18] (R64). -/
theorem sineIndex_phaseTheta (e : Ticks) (ftw : Word) :
    sineIndex (phaseTheta e ftw) = BitVec.ofNat 14 (phaseProduct e ftw % 2 ^ 32 / 2 ^ 18) := by
  apply BitVec.eq_of_toNat_eq
  rw [sineIndex_toNat, phaseTheta_toNat, BitVec.toNat_ofNat]
  exact (Nat.mod_eq_of_lt (by omega)).symm

/-- Settles O18: the sample is below the repeat count, and the voltage is the sine's at theta. -/
theorem sineSampleIsIssued : Obligations.SineSampleIsIssued := by
  rintro s P v hf rfl hn rfl
  rw [exec_modeSine, State.modeCycle_pSample hf, State.sample_of_below hn]
  have hv : s.periodicV 1 = s.lo.toInt + (sin14 s.par.sineImpl
      (BitVec.ofNat 14 ((s.now - s.t0).toNat * s.ftw.toNat % 2 ^ 32 / 2 ^ 18)) + 32767)
        * (s.hi.toInt - s.lo.toInt) / 65534 := by
    show sineV s.par.sineImpl s.lo s.hi (phaseTheta s.elapsed s.ftw) = _
    rw [sineV, sineIndex_phaseTheta]
    rfl
  rw [hv]
  rfl

/-- Settles O19: the sample is below the repeat count, and the voltage is the ramp's at theta. -/
theorem sawtoothSampleIsIssued : Obligations.SawtoothSampleIsIssued := by
  rintro s P v hf rfl hn rfl
  rw [exec_modeSawtooth, State.modeCycle_pSample hf, State.sample_of_below hn]
  have hv : s.periodicV 2 = s.lo.toInt + (((s.now - s.t0).toNat * s.ftw.toNat % 2 ^ 32 : Nat) : Int)
      * (s.hi.toInt - s.lo.toInt) / 2 ^ 32 := by
    show sawV s.lo s.hi (phaseTheta s.elapsed s.ftw) = _
    rw [sawV, phaseTheta_toNat]
    rfl
  rw [hv]
  rfl

/-- Settles O20: both periodic modes take P_SAMPLE's stop. -/
theorem periodicRunStopsAtTheRepeatCount : Obligations.PeriodicRunStopsAtTheRepeatCount := by
  rintro s n hf rfl h0 hle i (rfl | rfl)
  · rw [exec_modeSine, State.modeCycle_pSample hf, State.sample_of_reached h0 hle]
    rfl
  · rw [exec_modeSawtooth, State.modeCycle_pSample hf, State.sample_of_reached h0 hle]
    rfl

/-! ### S_ENTRY and S_HOLD (R71, R76) -/

/-- The state after entry `j` has been issued from `u` with the word `w`: what R71 and R76 write, with VERBOSE read from
CTRL as R79 does. -/
def State.issuedEntry (u : State) (j : Nat) (w : Word) : State :=
  { u with
    idx := BitVec.ofNat 8 j, es := u.now, code := quantize u.par.fullScaleUv w.toInt, fsm := .selReq,
    out := { u.out with dbgValid := u.ctrl.getLsbD 3, dbgVolt := if u.ctrl.getLsbD 3 then w else 0 } }

/-- A written entry is issued with its word. -/
theorem State.issueEntry_eq_issuedEntry {w : Word} (h : s.table.read i = some w) :
    s.issueEntry i = s.issuedEntry i w := by
  rw [State.issueEntry_written h, BitVec.ofInt_toInt]
  rfl

/-- An entry that nothing has written is issued with a free value, which is then drawn. -/
theorem State.issueEntry_eq_issuedEntry_drawn (h : s.table.read i = none) :
    s.issueEntry i = { s.issuedEntry i (s.stepEntry i) with draws := s.draws + 1 } := by
  rw [State.issueEntry_unwritten h, BitVec.ofInt_toInt]
  rfl

/-- An entry issued in the cycle is issued with its word, or with some word where nothing has been written. -/
theorem State.issueEntry_issues {o : Host.Outcome State Fault Refusal} {u : State} (h : o = .next (u.issueEntry i)) :
    (∀ w, u.table.read i = some w → o = .next (u.issuedEntry i w))
    ∧ (u.table.read i = none → ∃ w, o = .next { u.issuedEntry i w with draws := u.draws + 1 }) := by
  refine ⟨fun w hw => ?_, fun hn => ⟨u.stepEntry i, ?_⟩⟩
  · rw [h, State.issueEntry_eq_issuedEntry hw]
  · rw [h, State.issueEntry_eq_issuedEntry_drawn hn]

/-- Settles O21: S_ENTRY issues the entry IDX, and IDX stays. -/
theorem firstStepEntryIsIssued : Obligations.FirstStepEntryIsIssued := by
  intro s hf
  have hexec : exec .modeStep s = .next (s.issueEntry s.idx.toNat) := by
    rw [exec_modeStep, State.modeCycle_sEntry hf, State.firstEntry]
  have hidx : BitVec.ofNat 8 s.idx.toNat = s.idx := by rw [BitVec.ofNat_toNat, BitVec.setWidth_eq]
  have hissues := State.issueEntry_issues hexec
  simp only [State.issuedEntry, hidx] at hissues
  exact hissues

theorem State.hold_of_early (h : s.held.toNat * s.ftw.toNat < 2 ^ 32) : s.hold = s := by
  have hover : s.holdOver = false := by rw [Bool.eq_false_iff, ne_eq, State.holdOver_iff]; omega
  rw [State.hold, hover]
  rfl

section Over

variable (hover : 2 ^ 32 ≤ s.held.toNat * s.ftw.toNat)
include hover

/-- After its period an entry that is not the last is followed by the next one. -/
theorem State.hold_of_next (h : s.idx.toNat + 1 ≠ s.stepLen.toNat) : s.hold = s.issueEntry (s.idx.toNat + 1) := by
  rw [State.hold, if_pos (State.holdOver_iff.mpr hover), if_neg (mt State.lastEntry_iff.mp h)]

/-- After the last entry's period a pass below the repeat count is followed by entry 0. -/
theorem State.hold_of_wrap (h : s.idx.toNat + 1 = s.stepLen.toNat)
    (hn : s.repeatN.toNat = 0 ∨ s.cyc.toNat + 1 < s.repeatN.toNat) : s.hold = s.countPass.issueEntry 0 := by
  rw [State.hold, if_pos (State.holdOver_iff.mpr hover), if_pos (State.lastEntry_iff.mpr h),
    State.repeatReached_eq_false hn]
  rfl

/-- After the last entry's period the pass at the repeat count ends the run. -/
theorem State.hold_of_done (h : s.idx.toNat + 1 = s.stepLen.toNat) (h0 : 0 < s.repeatN.toNat)
    (hn : s.repeatN.toNat ≤ s.cyc.toNat + 1) : s.hold = s.countPass.stop .none 0 := by
  rw [State.hold, if_pos (State.holdOver_iff.mpr hover), if_pos (State.lastEntry_iff.mpr h),
    if_pos (State.repeatReached_iff.mpr ⟨h0, hn⟩)]

end Over

/-- Settles O22: S_HOLD's four outcomes, by H × FTW, IDX and the repeat count. -/
theorem holdKeepsAdvancesWrapsOrStops : Obligations.HoldKeepsAdvancesWrapsOrStops := by
  intro s hf
  have hexec : exec .modeStep s = .next s.hold := by rw [exec_modeStep, State.modeCycle_sHold hf]
  refine ⟨fun h => ?_, fun hover => ⟨fun hi => ?_, fun hi hn => ?_, fun hi h0 hn => ?_⟩⟩
  · rw [hexec, State.hold_of_early h]
  · rw [State.hold_of_next hover hi] at hexec
    exact State.issueEntry_issues hexec
  · rw [State.hold_of_wrap hover hi hn] at hexec
    exact State.issueEntry_issues hexec
  · rw [hexec, State.hold_of_done hover hi h0 hn]
    rfl

end Sys2Proof.Machine

end

section

namespace Sys2Proof.Machine

variable {s t u v : State} {i : Instr} {op : Bool} {a : BusAddr} {d : BitVec 16} {f : Fsm}

/-! ### The frame of the modes (R70, R71, R76, R78) -/

/-- What a mode's part of a cycle leaves alone in every FSM state, T0 but in STOPPED, and the status but where the run
ends or begins. -/
structure ModeFrame (u v : State) : Prop extends SameLastCode u v, SamePorts u v where
  /-- The same frames have been handed over. -/
  wire : v.wire = u.wire
  /-- T0 is the same in a run (R26). -/
  t0 : u.fsm ≠ .stopped → v.t0 = u.t0
  /-- DONE, ERR and ERR_COUNT are the same while the run goes on (R78). -/
  status : v.fsm ≠ .stopped → u.fsm ≠ .stopped → v.done = u.done ∧ v.err = u.err ∧ v.errCount = u.errCount

theorem ModeFrame.refl (u : State) : ModeFrame u u :=
  { SameLastCode.refl u, SamePorts.refl u with
    wire := rfl, t0 := fun _ => rfl, status := fun _ _ => ⟨rfl, rfl, rfl⟩ }

theorem ModeFrame.issueEntry (u : State) (i : Nat) : ModeFrame u (u.issueEntry i) := by
  obtain ⟨d, hd⟩ := u.afterStepRead_eq i
  rw [State.issueEntry, hd]
  exact { ModeFrame.refl u with status := fun _ _ => ⟨rfl, rfl, rfl⟩ }

theorem ModeFrame.sample (u : State) (m : BitVec 2) : ModeFrame u (u.sample m) := by
  rcases u.sample_cases m with ⟨-, h⟩ | ⟨-, h⟩ <;> rw [h]
  · exact { ModeFrame.refl u with status := absurd rfl }
  · exact { ModeFrame.refl u with status := fun _ _ => ⟨rfl, rfl, rfl⟩ }

theorem ModeFrame.hold (u : State) : ModeFrame u u.hold := by
  rcases u.hold_cases with ⟨-, h⟩ | ⟨-, -, -, h⟩ | ⟨-, -, -, h⟩ | ⟨-, -, h⟩ <;> rw [h]
  · exact .refl u
  · exact { ModeFrame.refl u with status := absurd rfl }
  · exact { ModeFrame.issueEntry u.countPass 0 with }
  · exact .issueEntry u _

/-- A launch sets T0 and the status, in STOPPED alone (R56, R57). -/
theorem ModeFrame.launch (hf : u.fsm = .stopped) (m : BitVec 2) (e : ErrKind) : ModeFrame u (u.launch m e) := by
  unfold State.launch
  split
  · exact { ModeFrame.refl u with t0 := absurd hf, status := fun _ => absurd hf }
  · exact { ModeFrame.refl u with status := fun _ => absurd hf }

theorem ModeFrame.modeCycle (u : State) (m : BitVec 2) : ModeFrame u (u.modeCycle m) := by
  unfold State.modeCycle
  cases hf : u.fsm with
  | stopped => exact .launch hf m _
  | pSample => exact .sample u m
  | sEntry => exact .issueEntry u _
  | sHold => exact .hold u
  | selReq | selWait | wrReq | wrWait => exact .refl u

/-- Each mode's row is the mode's part of a cycle (R44). -/
theorem exec_mode_row (hi : i = .modeStep ∨ i = .modeSine ∨ i = .modeSawtooth ∨ i = .modeReserved) (s : State) :
    ∃ m, exec i s = .next (s.modeCycle m) := by
  rcases hi with rfl | rfl | rfl | rfl
  · exact ⟨0, rfl⟩
  · exact ⟨1, rfl⟩
  · exact ⟨2, rfl⟩
  · exact ⟨3, rfl⟩

/-- Settles O23: each row is a mode's part of a cycle, which has this frame. -/
theorem modesKeepConfigurationAndLastCode : Obligations.ModesKeepConfigurationAndLastCode := by
  intro i s t hi hs
  obtain ⟨m, hm⟩ := exec_mode_row hi s
  cases hm.symm.trans hs
  have h := ModeFrame.modeCycle s m
  exact ⟨h.config, fun j => congrArg (Memory.read · j) h.table, h.lastCode, h.now, h.inputs, h.outstanding,
    h.requests, h.wire, h.rdata, h.req, h.t0, h.status⟩

/-! ### The requests in their states and outside them (R68, R72 to R75) -/

theorem exec_tpSelect_selReq (hf : s.fsm = .selReq) (a : BusAddr) :
    exec (.tpSelect a) s = .next (s.present false a 0 .selWait) := by
  rw [exec, execTpSelect, hf]

theorem exec_tpSelect_selWait (hf : s.fsm = .selWait) (a : BusAddr) : exec (.tpSelect a) s = .next s.selectWait := by
  rw [exec, execTpSelect, hf]

theorem exec_tpWrite_wrReq (hf : s.fsm = .wrReq) (a : BusAddr) (c : Code) :
    exec (.tpWrite a c) s = .next (s.present true a (frame16 c) .wrWait) := by
  rw [exec, execTpWrite, hf]

theorem exec_tpWrite_wrWait (hf : s.fsm = .wrWait) (a : BusAddr) (c : Code) :
    exec (.tpWrite a c) s = .next s.writeWait := by
  rw [exec, execTpWrite, hf]

theorem exec_tpSelect_other (hr : s.fsm ≠ .selReq) (hw : s.fsm ≠ .selWait) (a : BusAddr) :
    exec (.tpSelect a) s = .next s := by
  rw [exec, execTpSelect]
  cases hf : s.fsm with
  | selReq => exact absurd hf hr
  | selWait => exact absurd hf hw
  | stopped | pSample | sEntry | wrReq | wrWait | sHold => rfl

theorem exec_tpWrite_other (hr : s.fsm ≠ .wrReq) (hw : s.fsm ≠ .wrWait) (a : BusAddr) (c : Code) :
    exec (.tpWrite a c) s = .next s := by
  rw [exec, execTpWrite]
  cases hf : s.fsm with
  | wrReq => exact absurd hf hr
  | wrWait => exact absurd hf hw
  | stopped | pSample | sEntry | selReq | selWait | sHold => rfl

/-- Settles O28: the modes have no part in the REQ and WAIT states, and a request none outside its own. -/
theorem operationsOutsideTheirStatesChangeNothing : Obligations.OperationsOutsideTheirStatesChangeNothing := by
  refine fun s a c m => ⟨fun hf i hd => ?_, fun hr hw => exec_tpSelect_other hr hw a,
    fun hr hw => exec_tpWrite_other hr hw a c⟩
  cases hd
  rw [exec_mode, State.modeCycle_transport hf]

/-! ### The handshake (R68, R72 to R75) -/

theorem State.present_pending (h : s.pins.tpReqReady = false) : s.present op a d f = s.drive op a d := by
  rw [State.present, h]; rfl

theorem State.present_taken (h : s.pins.tpReqReady = true) :
    s.present op a d f = (s.drive op a d).transfer (tpReqWord op a d) f := if_pos h

/-- Settles O24: each REQ state presents its request, and records the word where it transfers. -/
theorem requestIsPresentedUntilTaken : Obligations.RequestIsPresentedUntilTaken := by
  refine fun a c s => ⟨fun hf => ⟨fun h => ?_, fun h => ?_⟩, fun hf => ⟨fun h => ?_, fun h => ?_⟩⟩
  · rw [exec_tpSelect_selReq hf, State.present_pending h]; rfl
  · rw [exec_tpSelect_selReq hf, State.present_taken h]; rfl
  · rw [exec_tpWrite_wrReq hf, State.present_pending h, frame16_eq_setWidth]; rfl
  · rw [exec_tpWrite_wrReq hf, State.present_taken h, frame16_eq_setWidth]; rfl

theorem State.selectWait_silent (h : s.pins.tpRspValid = false) : s.selectWait = s := by
  rw [State.selectWait, h]; rfl

theorem State.selectWait_ok (h : s.pins.tpRspValid = true) (hok : s.pins.tpRsp.ok = true) :
    s.selectWait = { s with fsm := .wrReq } := by
  rw [State.selectWait, if_pos h, if_pos hok]

theorem State.selectWait_failed (h : s.pins.tpRspValid = true) (hok : s.pins.tpRsp.ok = false) :
    s.selectWait = s.stop .transportSelect 0 := by
  rw [State.selectWait, if_pos h, hok]; rfl

theorem State.writeWait_silent (h : s.pins.tpRspValid = false) : s.writeWait = s := by
  rw [State.writeWait, h]; rfl

theorem State.writeWait_ok (h : s.pins.tpRspValid = true) (hok : s.pins.tpRsp.writeOk = true) :
    s.writeWait = s.writeDone := by
  rw [State.writeWait, if_pos h, if_pos hok]

theorem State.writeWait_failed (h : s.pins.tpRspValid = true) (hok : s.pins.tpRsp.writeOk = false) :
    s.writeWait = s.stop .transportWrite s.pins.tpRsp.count := by
  rw [State.writeWait, if_pos h, hok]; rfl

theorem State.writeDone_periodic (hm : s.mode ≠ 0) : s.writeDone = { s with lastCode := s.code, fsm := .pSample } :=
  if_pos hm

theorem State.writeDone_single (hm : s.mode = 0) (hl : s.stepLen.toNat = 1) :
    s.writeDone = ({ s with lastCode := s.code }).stop .none 0 := by
  rw [State.writeDone, if_neg (not_not.mpr hm), if_pos hl]

theorem State.writeDone_hold (hm : s.mode = 0) (hl : s.stepLen.toNat ≠ 1) :
    s.writeDone = { s with lastCode := s.code, fsm := .sHold } := by
  rw [State.writeDone, if_neg (not_not.mpr hm), if_neg hl]

/-- STATUS after a run has ended: the count of a failed WRITE in bits 9 and 8, the code of the error in bits 7 to 4, and
DONE in bit 1 (R21, R45, R78). -/
theorem State.stop_status (s : State) (e : ErrKind) (n : BitVec 2) :
    (s.stop e n).status
      = BitVec.ofNat 32 (0x100 * n.toNat + 0x10 * e.code.toNat + 2 * (e == .none).toNat) := by
  have h : (s.stop e n).status
      = (n ++ e.code ++ (0 : BitVec 2) ++ BitVec.ofBool (e == .none) ++ BitVec.ofBool false).setWidth 32 := rfl
  rw [h]
  have hn : n = 0 ∨ n = 1 ∨ n = 2 ∨ n = 3 := by bv_omega
  rcases hn with rfl | rfl | rfl | rfl <;> cases e <;> rfl

/-- Settles O25: SEL_WAIT's three outcomes, by the response. -/
theorem selectResponseIsTaken : Obligations.SelectResponseIsTaken := by
  intro a s hf
  rw [exec_tpSelect_selWait hf]
  refine ⟨fun hv => ?_, fun hv hok => ?_, fun hv hok => ⟨s.stop .transportSelect 0, ?_, rfl, ?_⟩⟩
  · rw [State.selectWait_silent hv]
  · rw [State.selectWait_ok hv hok]
  · rw [State.selectWait_failed hv hok]
  · rw [State.stop_status]; rfl

theorem writeOk_eq_false {r : TpRsp} (h : r.ok = false ∨ r.count.toNat < 2) : r.writeOk = false := by
  rw [Bool.eq_false_iff, ne_eq, writeOk_iff]
  rintro ⟨hok, hcount⟩
  rcases h with h | h
  · exact Bool.noConfusion (h.symm.trans hok)
  · omega

/-- Settles O26: WR_WAIT's outcomes, by the response, and those of a success, by the mode and the length. -/
theorem writeResponseIsTaken : Obligations.WriteResponseIsTaken := by
  intro a c s hf
  rw [exec_tpWrite_wrWait hf]
  refine ⟨fun hv => ?_, fun hv hbad => ⟨s.stop .transportWrite s.pins.tpRsp.count, ?_, rfl, ?_⟩,
    fun hv hok hcount => ?_⟩
  · rw [State.writeWait_silent hv]
  · rw [State.writeWait_failed hv (writeOk_eq_false hbad)]
  · rw [State.stop_status, Nat.add_comm (0x30)]; rfl
  · rw [State.writeWait_ok hv ((writeOk_iff _).mpr ⟨hok, hcount⟩)]
    refine ⟨fun hm => ?_, fun hm hl => ⟨({ s with lastCode := s.code }).stop .none 0, ?_, rfl, ?_⟩, fun hm hl => ?_⟩
    · rw [State.writeDone_periodic hm]
    · rw [State.writeDone_single hm hl]
    · rw [State.stop_status]; rfl
    · rw [State.writeDone_hold hm hl]

/-! ### A cycle without access (R69 to R76) -/

/-- Without an access the cycle's operations are the controller's. -/
theorem State.cycleOps_quiet (hv : s.pins.hpValid = false) : s.cycleOps = s.loopOps := by
  rw [State.cycleOps, State.hostOps, hv]; rfl

/-- Without reset and access, a cycle with one operation is that operation and the NOW increment. -/
theorem step_of_loopOp (hr : s.pins.rst = false) (hv : s.pins.hpValid = false) (hl : s.loopOps = [i])
    (hi : exec i s.beginCycle = .next t) : step s = .next t.endCycle := by
  apply step_of_runOps hr
  rw [State.cycleOps_quiet hv, hl, runOps_cons_next hi, runOps_nil]

/-- The controller's one operation in each state but WR_REQ. -/
theorem State.loopOps_mode (hf : s.fsm = .pSample ∨ s.fsm = .sEntry ∨ s.fsm = .sHold) :
    s.loopOps = [decodeMode s.mode] := by
  rcases hf with hf | hf | hf <;> rw [State.loopOps, hf]

theorem State.loopOps_select (hf : s.fsm = .selReq ∨ s.fsm = .selWait) : s.loopOps = [.tpSelect s.busAddr] := by
  rcases hf with hf | hf <;> rw [State.loopOps, hf]

theorem State.loopOps_write (hf : s.fsm = .wrWait ∨ (s.fsm = .wrReq ∧ s.pins.tpReqReady = false)) :
    s.loopOps = [.tpWrite s.busAddr s.code] := by
  rcases hf with hf | ⟨hf, hready⟩
  · rw [State.loopOps, hf]
  · rw [State.loopOps, hf, hready]; rfl

theorem State.loopOps_transfer (hf : s.fsm = .wrReq) (hready : s.pins.tpReqReady = true) :
    s.loopOps = [.tpWrite s.busAddr s.code, .dacFrame s.code] := by
  rw [State.loopOps, hf, hready]; rfl

/-- The operation of the SELECT word of R46. -/
theorem decode_select {a : BusAddr} (h : decode (.tpReq ((0 : BitVec 1) ++ a ++ (0 : BitVec 16))) = .ok i) :
    i = .tpSelect a :=
  Except.ok.inj (h.symm.trans (decodeTpReq_selectWord a))

/-- The operation of the WRITE word of R46. -/
theorem decode_write {a : BusAddr} {c : Code} (h : decode (.tpReq ((1 : BitVec 1) ++ a ++ c.setWidth 16)) = .ok i) :
    i = .tpWrite a c := by
  rw [← frame16_eq_setWidth] at h
  exact Except.ok.inj (h.symm.trans (decodeTpReq_writeWord a c))

/-- The operation of the frame of R48. -/
theorem decode_frame {c : Code} (h : decode (.frame16 (c.setWidth 16)) = .ok i) : i = .dacFrame c := by
  rw [← frame16_eq_setWidth] at h
  exact Except.ok.inj (h.symm.trans (decodeFrame_frame16 c))

/-- Settles O30: the cycle's operations are the controller's, which each word decodes to. -/
theorem stepRunsTheControllersOperation : Obligations.StepRunsTheControllersOperation := by
  refine fun s hr hv => ⟨fun hf => ?_, fun hf i t hd hi => ?_, fun hf i t hd hi => ?_, fun hf i t hd hi => ?_,
    fun hf hready i j t u hd hd' hi hj => ?_⟩
  · apply step_of_runOps hr
    rw [State.cycleOps_quiet hv, State.loopOps, hf]
    rfl
  · exact step_of_loopOp hr hv (Except.ok.inj hd ▸ State.loopOps_mode hf) hi
  · exact step_of_loopOp hr hv (decode_select hd ▸ State.loopOps_select hf) hi
  · exact step_of_loopOp hr hv (decode_write hd ▸ State.loopOps_write hf) hi
  · cases decode_write hd
    cases decode_frame hd'
    apply step_of_runOps hr
    rw [State.cycleOps_quiet hv, State.loopOps_transfer hf hready, runOps_cons_next hi, runOps_cons_next hj, runOps_nil]

end Sys2Proof.Machine

end

section

namespace Sys2Proof.Machine

variable {s t u : State}

/-! ### The controller's part of a cycle, state by state (R69 to R76) -/

theorem State.loopPhase_stopped (hf : s.fsm = .stopped) (u : State) : s.loopPhase u = u := by
  rw [State.loopPhase, hf]

theorem State.loopPhase_pSample (hf : s.fsm = .pSample) (u : State) : s.loopPhase u = u.sample s.mode := by
  rw [State.loopPhase, hf]

theorem State.loopPhase_sEntry (hf : s.fsm = .sEntry) (u : State) : s.loopPhase u = u.firstEntry := by
  rw [State.loopPhase, hf]

theorem State.loopPhase_sHold (hf : s.fsm = .sHold) (u : State) : s.loopPhase u = u.hold := by
  rw [State.loopPhase, hf]

theorem State.loopPhase_selWait (hf : s.fsm = .selWait) (u : State) : s.loopPhase u = u.selectWait := by
  rw [State.loopPhase, hf]

theorem State.loopPhase_wrReq_pending (hf : s.fsm = .wrReq) (h : s.pins.tpReqReady = false) (u : State) :
    s.loopPhase u = u.present true s.busAddr (frame16 s.code) .wrWait := by
  rw [State.loopPhase, hf, h]
  rfl

theorem State.loopPhase_wrReq_taken (hf : s.fsm = .wrReq) (h : s.pins.tpReqReady = true) (u : State) :
    s.loopPhase u = (u.present true s.busAddr (frame16 s.code) .wrWait).handFrame s.code := by
  rw [State.loopPhase, hf, h]
  rfl

/-! ### The request pins (R68) -/

@[simp] theorem State.present_req (u : State) (op : Bool) (a : BusAddr) (d : BitVec 16) (f : Fsm) :
    (u.present op a d f).out.req = { valid := true, op := op, addr := a, data := d } := by
  rcases u.present_cases op a d f with ⟨-, h⟩ | ⟨-, h⟩ <;> rw [h] <;> rfl

/-- Settles O31: the REQ states drive their request, and no other part of the cycle touches the request pins. -/
theorem requestPinsFollowTheFsm : Obligations.RequestPinsFollowTheFsm := by
  intro s t hr hs
  cases (step_live hr).symm.trans hs
  rw [State.endCycle_out]
  by_cases hsel : s.fsm = .selReq
  · rw [if_pos hsel, State.loopPhase_selReq hsel, State.present_req]
    rfl
  rw [if_neg hsel]
  by_cases hwr : s.fsm = .wrReq
  · obtain ⟨b, hb⟩ := State.loopPhase_wrReq hwr s.hostPhase
    rw [if_pos hwr, hb, ← frame16_eq_setWidth]
    exact State.present_req _ _ _ _ _
  · rw [if_neg hwr, (State.loopPhase_samePorts hsel hwr _).req, s.hostPhase_sameTransport.req]
    rfl

/-! ### The diagnostic port (R79) -/

/-- The diagnostic port is the same. -/
structure SameDiag (u v : State) : Prop where
  /-- dbg_valid is the same. -/
  valid : v.out.dbgValid = u.out.dbgValid
  /-- dbg_volt is the same. -/
  volt : v.out.dbgVolt = u.out.dbgVolt

theorem SameDiag.of_out (h : t.out = u.out) : SameDiag u t :=
  ⟨by rw [h], by rw [h]⟩

/-- No host access reaches the diagnostic port (R52, R53, R56). -/
theorem State.hostPhase_sameDiag (s : State) : SameDiag s.beginCycle s.hostPhase := by
  unfold State.hostPhase
  split
  · split
    · exact .of_out (SameBeyondWrite.hostWrite _ _ _).out
    · obtain ⟨d, hd⟩ := s.beginCycle.hostRead_cases s.pins.hpAddr
      rw [hd]
      exact ⟨rfl, rfl⟩
  · exact ⟨rfl, rfl⟩

/-- What a mode's part does on the diagnostic port: an issue reports by VERBOSE and leads to SEL_REQ, and anything else
drives nothing and leads elsewhere (R70, R71, R76). -/
inductive IssuesOrIsSilent (u v : State) : Prop where
  /-- A voltage `x` is reported by a VERBOSE that is the same, and SEL_REQ follows. -/
  | issues (w : State) (x : Int) (ctrl : w.ctrl = u.ctrl) (fsm : v.fsm = .selReq) (out : v.out = (w.diag x).out)
  /-- Nothing is issued. -/
  | silent (fsm : v.fsm ≠ .selReq) (out : v.out = u.out)

theorem IssuesOrIsSilent.issueEntry {w : State} (hw : w.ctrl = u.ctrl) (i : Nat) :
    IssuesOrIsSilent u (w.issueEntry i) :=
  .issues (w.afterStepRead i) (w.stepV i) ((w.afterStepRead_ctrl i).trans hw) rfl rfl

theorem IssuesOrIsSilent.sample (u : State) (m : BitVec 2) : IssuesOrIsSilent u (u.sample m) := by
  rcases u.sample_cases m with ⟨-, h⟩ | ⟨-, h⟩ <;> rw [h]
  · exact .silent nofun rfl
  · exact .issues u (u.periodicV m) rfl rfl rfl

theorem IssuesOrIsSilent.hold (hf : u.fsm ≠ .selReq) : IssuesOrIsSilent u u.hold := by
  rcases u.hold_cases with ⟨-, h⟩ | ⟨-, -, -, h⟩ | ⟨-, -, -, h⟩ | ⟨-, -, h⟩ <;> rw [h]
  · exact .silent hf rfl
  · exact .silent nofun rfl
  · exact .issueEntry (u := u) u.countPass_ctrl 0
  · exact .issueEntry rfl _

/-- In the states of the modes the controller issues or is silent. -/
theorem State.loopPhase_issuesOrIsSilent (hf : s.fsm = .pSample ∨ s.fsm = .sEntry ∨ s.fsm = .sHold)
    (hu : u.fsm = s.fsm) : IssuesOrIsSilent u (s.loopPhase u) := by
  rcases hf with hf | hf | hf
  · rw [State.loopPhase_pSample hf]
    exact .sample u _
  · rw [State.loopPhase_sEntry hf]
    exact .issueEntry rfl _
  · rw [State.loopPhase_sHold hf]
    exact .hold (by simp [hu, hf])

theorem SameDiag.present (u : State) (op : Bool) (a : BusAddr) (d : BitVec 16) (f : Fsm) :
    SameDiag u (u.present op a d f) := by
  rcases u.present_cases op a d f with ⟨-, h⟩ | ⟨-, h⟩ <;> rw [h] <;> exact ⟨rfl, rfl⟩

theorem SameDiag.selectWait (u : State) : SameDiag u u.selectWait := by
  rcases u.selectWait_cases with ⟨-, h⟩ | ⟨-, -, h⟩ | ⟨-, -, h⟩ <;> rw [h] <;> exact ⟨rfl, rfl⟩

theorem SameDiag.writeWait (u : State) : SameDiag u u.writeWait := by
  rcases u.writeWait_cases with ⟨-, h⟩ | ⟨-, -, h⟩ | ⟨-, -, h⟩ <;> rw [h]
  · exact ⟨rfl, rfl⟩
  · rcases u.writeDone_cases with ⟨-, h⟩ | ⟨-, -, h⟩ | ⟨-, -, h⟩ <;> rw [h] <;> exact ⟨rfl, rfl⟩
  · exact ⟨rfl, rfl⟩

/-- Outside the states of the modes the controller does not reach the diagnostic port. -/
theorem State.loopPhase_sameDiag (hp : s.fsm ≠ .pSample) (he : s.fsm ≠ .sEntry) (hh : s.fsm ≠ .sHold) (u : State) :
    SameDiag u (s.loopPhase u) := by
  unfold State.loopPhase
  cases hs : s.fsm with
  | stopped => exact ⟨rfl, rfl⟩
  | pSample => exact absurd hs hp
  | sEntry => exact absurd hs he
  | sHold => exact absurd hs hh
  | selReq => exact .present u _ _ _ _
  | selWait => exact .selectWait u
  | wrReq =>
    have h := SameDiag.present u true s.busAddr (frame16 s.code) .wrWait
    dsimp only
    split
    · exact ⟨h.valid, h.volt⟩
    · exact h
  | wrWait => exact .writeWait u

/-- Settles O32: an issue drives the port by VERBOSE, and nothing else in the cycle drives it. -/
theorem diagnosticPortReportsIssuesOnly : Obligations.DiagnosticPortReportsIssuesOnly := by
  intro s t hr hs
  cases (step_live hr).symm.trans hs
  rw [State.endCycle_out, State.endCycle_fsm]
  have hh := s.hostPhase_sameDiag
  have hvalid : s.hostPhase.out.dbgValid = false := hh.valid
  have hvolt : s.hostPhase.out.dbgVolt = 0 := hh.volt
  by_cases hf : s.fsm = .pSample ∨ s.fsm = .sEntry ∨ s.fsm = .sHold
  · have hrun : s.fsm ≠ .stopped := by rcases hf with hf | hf | hf <;> rw [hf] <;> exact nofun
    rcases State.loopPhase_issuesOrIsSilent hf (State.hostPhase_fsm hrun) with ⟨w, x, hctrl, hfsm, hout⟩ | ⟨hfsm, hout⟩
    · obtain ⟨r, d, hhost⟩ := State.hostPhase_running hrun
      have hverbose : w.verbose = s.verbose := State.verbose_congr (by rw [hctrl, hhost]; rfl)
      rw [hout, State.diag_out, hfsm, hverbose]
      exact ⟨⟨fun hv => ⟨hv, rfl, hf⟩, fun ⟨hv, _⟩ => hv⟩, fun hv => by simp [show s.verbose = false from hv]⟩
    · rw [hout]
      exact ⟨⟨fun hv => by simp [hvalid] at hv, fun ⟨_, hsel, _⟩ => absurd hsel hfsm⟩, fun _ => hvolt⟩
  · obtain ⟨hp, he, hhold⟩ : s.fsm ≠ .pSample ∧ s.fsm ≠ .sEntry ∧ s.fsm ≠ .sHold := by simpa using hf
    have hl := State.loopPhase_sameDiag hp he hhold s.hostPhase
    rw [hl.valid, hl.volt, hvalid, hvolt]
    exact ⟨⟨nofun, fun ⟨_, _, hm⟩ => absurd hm hf⟩, fun _ => rfl⟩

/-! ### Waiting for the transport (R82) -/

/-- A cycle without access begins with nothing of the host's. -/
theorem State.hostPhase_quiet (hv : s.pins.hpValid = false) : s.hostPhase = s.beginCycle := by
  rw [State.hostPhase, hv]
  rfl

/-- A cycle without reset and access is the controller's part and the NOW increment. -/
theorem step_quiet (hr : s.pins.rst = false) (hv : s.pins.hpValid = false) :
    step s = .next (s.loopPhase s.beginCycle).endCycle := by
  rw [step_live hr, State.hostPhase_quiet hv]

/-- Without a response as many answers are owed at the start of the cycle as before. -/
theorem State.beginCycle_silent (hv : s.pins.tpRspValid = false) : s.beginCycle = { s with out := Outputs.quiet } := by
  rw [State.beginCycle, State.answered, hv]
  rfl

/-- Settles O38: without a response a WAIT state stays as it is, and a REQ state only drives its request. -/
theorem waitingChangesOnlyNow : Obligations.WaitingChangesOnlyNow := by
  intro s hr hv hrsp
  rw [step_quiet hr hv, State.beginCycle_silent hrsp]
  refine ⟨fun hf => ?_, fun hf hready => ?_, fun hf hready => ?_⟩
  · rcases hf with hf | hf
    · rw [State.loopPhase_selWait hf, State.selectWait_silent (s := { s with out := Outputs.quiet }) hrsp]
      rfl
    · rw [State.loopPhase_wrWait hf, State.writeWait_silent (s := { s with out := Outputs.quiet }) hrsp]
      rfl
  · rw [State.loopPhase_selReq hf, State.present_pending (s := { s with out := Outputs.quiet }) hready]
    rfl
  · rw [State.loopPhase_wrReq_pending hf hready, State.present_pending (s := { s with out := Outputs.quiet }) hready,
      frame16_eq_setWidth]
    rfl

/-! ### A response outside the WAIT states (R68) -/

section Response

variable (v : Bool) (r : TpRsp) (k : Nat)

/-- The same state with another response on the pins, and `k` answers owed. -/
def State.withResponse (u : State) : State :=
  { u.withPins { u.pins with tpRspValid := v, tpRsp := r } with outstanding := k }

theorem State.withResponse_issueEntry (u : State) (i : Nat) :
    (u.withResponse v r k).issueEntry i = (u.issueEntry i).withResponse v r k := by
  cases h : u.table.read i with
  | some x => rw [State.issueEntry_written h, State.issueEntry_written (s := u.withResponse v r k) h]; rfl
  | none => rw [State.issueEntry_unwritten h, State.issueEntry_unwritten (s := u.withResponse v r k) h]; rfl

theorem State.withResponse_sample (u : State) (m : BitVec 2) :
    (u.withResponse v r k).sample m = (u.sample m).withResponse v r k := by
  unfold State.sample
  rw [apply_ite (State.withResponse v r k)]
  rfl

theorem State.withResponse_hold (u : State) : (u.withResponse v r k).hold = u.hold.withResponse v r k := by
  unfold State.hold
  simp only [apply_ite (State.withResponse v r k), ← State.withResponse_issueEntry]
  rfl

/-- A request transfers or not whatever the response; where it does, one more answer is owed. -/
theorem State.withResponse_present (u : State) (op : Bool) (a : BusAddr) (d : BitVec 16) (f : Fsm) :
    ∃ k', (u.withResponse v r k).present op a d f = (u.present op a d f).withResponse v r k' := by
  cases h : u.pins.tpReqReady with
  | true => exact ⟨k + 1, by rw [State.present_taken h, State.present_taken (s := u.withResponse v r k) h]; rfl⟩
  | false => exact ⟨k, by rw [State.present_pending h, State.present_pending (s := u.withResponse v r k) h]; rfl⟩

/-- Outside the WAIT states the controller does not look at the response. -/
theorem State.withResponse_loopPhase (hsel : s.fsm ≠ .selWait) (hwr : s.fsm ≠ .wrWait) (k₀ : Nat) (u : State) :
    ∃ k', (s.withResponse v r k₀).loopPhase (u.withResponse v r k) = (s.loopPhase u).withResponse v r k' := by
  have hf : (s.withResponse v r k₀).fsm = s.fsm := rfl
  unfold State.loopPhase
  rw [hf]
  cases hs : s.fsm with
  | stopped => exact ⟨k, rfl⟩
  | pSample => exact ⟨k, u.withResponse_sample v r k _⟩
  | sEntry => exact ⟨k, u.withResponse_issueEntry v r k _⟩
  | sHold => exact ⟨k, u.withResponse_hold v r k⟩
  | selReq => exact u.withResponse_present v r k _ _ _ _
  | selWait => exact absurd hs hsel
  | wrReq =>
    obtain ⟨k', hk⟩ := u.withResponse_present v r k true s.busAddr (frame16 s.code) .wrWait
    refine ⟨k', ?_⟩
    dsimp only
    rw [apply_ite (State.withResponse v r k')]
    exact if_congr Iff.rfl (congrArg (State.handFrame · s.code) hk) hk
  | wrWait => exact absurd hs hwr

theorem State.withResponse_hostWrite (u : State) (a : BitVec 10) (w : Word) :
    (u.withResponse v r k).hostWrite a w = (u.hostWrite a w).withResponse v r k := by
  have hreg (q : Reg) : (u.withResponse v r k).regWrite w q = (u.regWrite w q).withResponse v r k := by
    cases q <;> rfl
  unfold State.hostWrite State.command State.startCommand State.launch
  simp only [apply_ite (State.withResponse v r k), ← hreg]
  rfl

theorem State.withResponse_hostRead (u : State) (a : BitVec 10) :
    (u.withResponse v r k).hostRead a = (u.hostRead a).withResponse v r k := by
  have hread (q : Reg) : (u.withResponse v r k).regRead q = u.regRead q := by
    cases q <;> rfl
  have hafter (q : Reg) : (u.withResponse v r k).afterRegRead q = (u.afterRegRead q).withResponse v r k := by
    cases q with
    | step i =>
      cases h : u.table.read i with
      | some x =>
        exact (State.stepEntry_written (s := u.withResponse v r k) h).2.trans
          (congrArg (State.withResponse v r k) (State.stepEntry_written h).2.symm)
      | none =>
        exact (State.stepEntry_unwritten (s := u.withResponse v r k) h).2.trans
          (congrArg (State.withResponse v r k) (State.stepEntry_unwritten h).2.symm)
    | _ => rfl
  unfold State.hostRead
  simp only [hread, hafter]
  rfl

/-- The host's part of a cycle does not look at the response, but for the count of answers owed. -/
theorem State.withResponse_hostPhase (s : State) :
    ∃ k', (s.withResponse v r k).hostPhase = s.hostPhase.withResponse v r k' := by
  have hb : (s.withResponse v r k).beginCycle = s.beginCycle.withResponse v r (s.withResponse v r k).answered := rfl
  generalize (s.withResponse v r k).answered = k' at hb
  refine ⟨k', ?_⟩
  unfold State.hostPhase
  rw [hb, State.withResponse_hostWrite, State.withResponse_hostRead, apply_ite (State.withResponse v r k'),
    apply_ite (State.withResponse v r k')]
  rfl

/-- Only the count of answers owed is left of the other response after the cycle. -/
theorem State.withResponse_endCycle (u : State) :
    { (u.withResponse v r k).endCycle with outstanding := u.endCycle.outstanding } = u.endCycle := rfl

end Response

/-- Settles O39: no part of the cycle but SEL_WAIT and WR_WAIT looks at the response. -/
theorem unsolicitedResponseIsIgnored : Obligations.UnsolicitedResponseIsIgnored := by
  intro s v r hsel hwr
  have hs : s.withPins { s.pins with tpRspValid := v, tpRsp := r } = s.withResponse v r s.outstanding := rfl
  rw [hs]
  cases hr : s.pins.rst with
  | true => exact ⟨_, _, step_reset hr, step_reset (s := s.withResponse v r s.outstanding) hr, rfl⟩
  | false =>
    obtain ⟨k₁, hhost⟩ := s.withResponse_hostPhase v r s.outstanding
    obtain ⟨k₂, hloop⟩ := State.withResponse_loopPhase v r k₁ hsel hwr s.outstanding s.hostPhase
    refine ⟨_, _, step_live hr, step_live (s := s.withResponse v r s.outstanding) hr, ?_⟩
    rw [hhost, hloop]
    exact State.withResponse_endCycle v r k₂ _

end Sys2Proof.Machine

end

section

namespace Sys2Proof.Safety

open Sys2Proof.Machine

variable {s t u : State}

theorem SameConfig.refl (u : State) : SameConfig u u :=
  ⟨rfl, rfl, rfl, rfl, rfl, rfl, rfl, rfl⟩

theorem SameConfig.trans (h : SameConfig s t) (h' : SameConfig t u) : SameConfig s u := by
  obtain ⟨hpar, hctrl, hlo, hhi, hftw, hrep, hlen, htable⟩ := h
  obtain ⟨hpar', hctrl', hlo', hhi', hftw', hrep', hlen', htable'⟩ := h'
  exact ⟨hpar'.trans hpar, hctrl'.trans hctrl, hlo'.trans hlo, hhi'.trans hhi, hftw'.trans hftw, hrep'.trans hrep,
    hlen'.trans hlen, htable'.trans htable⟩

end Sys2Proof.Safety

namespace Sys2Proof.Machine

open Sys2Proof.Safety

variable {s t u : State} {w : Word}

/-! ### One cycle of a run, in each FSM state (R70 to R76) -/

/-- The same state but for what a host access reaches during a run: the outputs `o`, the answers owed `k` and the count
`d` of free values. -/
abbrev State.withPorts (s : State) (o : Outputs) (k d : Nat) : State :=
  { s with out := o, outstanding := k, draws := d }

/-- A cycle of a run in which the controller stays as it is: NOW advances and the pins are the next ones. -/
def State.ticked (s : State) (o : Outputs) (k d : Nat) : State :=
  { s with now := s.now + 1, inputs := s.inputs.tail, out := o, outstanding := k, draws := d }

theorem State.withPorts_idx (s : State) (o : Outputs) (k d : Nat) : (s.withPorts o k d).idx = s.idx := rfl

/-- A cycle of a run is the controller's part of it, whatever the host does: an access reaches no more than the outputs
and the count of free values (R54). -/
theorem step_running (hr : s.pins.rst = false) (hf : s.fsm ≠ .stopped) :
    ∃ o k d, step s = .next (s.loopPhase (s.withPorts o k d)).endCycle := by
  obtain ⟨r, d, hh⟩ := State.hostPhase_running hf
  exact ⟨{ Outputs.quiet with rdata := r }, s.answered, d, by rw [step_live hr, hh]; rfl⟩

/-- The frame of a WRITE is handed over in its cycle, before or after the NOW increment (R25, R48). -/
theorem State.handFrame_endCycle (u : State) (c : Code) : (u.handFrame c).endCycle = u.endCycle.handFrame c := rfl

section Cycle

variable (hr : s.pins.rst = false)
include hr

theorem step_pSample_issues (hf : s.fsm = .pSample)
    (hn : s.repeatN.toNat = 0 ∨ phasePeriods s.elapsed s.ftw < s.repeatN.toNat) :
    ∃ o k d, step s = .next { s.ticked o k d with
      cyc := BitVec.ofNat 64 (phasePeriods s.elapsed s.ftw),
      code := quantize s.par.fullScaleUv (s.periodicV s.mode), fsm := .selReq } := by
  obtain ⟨o, k, d, h⟩ := step_running hr (by simp [hf])
  rw [State.loopPhase_pSample hf,
    State.sample_of_below (s := s.withPorts o k d) hn] at h
  exact ⟨_, _, _, h⟩

theorem step_sEntry_issues (hf : s.fsm = .sEntry) (hw : s.table.read s.idx.toNat = some w) :
    ∃ o k d, step s = .next { s.ticked o k d with
      es := s.now, code := quantize s.par.fullScaleUv w.toInt, fsm := .selReq } := by
  have hidx : BitVec.ofNat 8 s.idx.toNat = s.idx := by rw [BitVec.ofNat_toNat, BitVec.setWidth_eq]
  obtain ⟨o, k, d, h⟩ := step_running hr (by simp [hf])
  rw [State.loopPhase_sEntry hf, State.firstEntry, State.withPorts_idx,
    State.issueEntry_eq_issuedEntry (s := s.withPorts o k d) hw,
    State.issuedEntry, hidx] at h
  exact ⟨_, _, _, h⟩

theorem step_selReq_pending (hf : s.fsm = .selReq) (hp : s.pins.tpReqReady = false) :
    ∃ o k d, step s = .next (s.ticked o k d) := by
  obtain ⟨o, k, d, h⟩ := step_running hr (by simp [hf])
  rw [State.loopPhase_selReq hf,
    State.present_pending (s := s.withPorts o k d) hp] at h
  exact ⟨_, _, _, h⟩

theorem step_selReq_taken (hf : s.fsm = .selReq) (hp : s.pins.tpReqReady = true) :
    ∃ o k d, step s = .next { s.ticked o k d with
      fsm := .selWait, requests := s.requests ++ [selectWord s.busAddr] } := by
  obtain ⟨o, k, d, h⟩ := step_running hr (by simp [hf])
  rw [State.loopPhase_selReq hf,
    State.present_taken (s := s.withPorts o k d) hp] at h
  exact ⟨_, _, _, h⟩

theorem step_selWait_silent (hf : s.fsm = .selWait) (hv : s.pins.tpRspValid = false) :
    ∃ o k d, step s = .next (s.ticked o k d) := by
  obtain ⟨o, k, d, h⟩ := step_running hr (by simp [hf])
  rw [State.loopPhase_selWait hf,
    State.selectWait_silent (s := s.withPorts o k d) hv] at h
  exact ⟨_, _, _, h⟩

theorem step_selWait_ok (hf : s.fsm = .selWait) (hv : s.pins.tpRspValid = true) (hok : s.pins.tpRsp.ok = true) :
    ∃ o k d, step s = .next { s.ticked o k d with fsm := .wrReq } := by
  obtain ⟨o, k, d, h⟩ := step_running hr (by simp [hf])
  rw [State.loopPhase_selWait hf,
    State.selectWait_ok (s := s.withPorts o k d) hv hok] at h
  exact ⟨_, _, _, h⟩

theorem step_wrReq_pending (hf : s.fsm = .wrReq) (hp : s.pins.tpReqReady = false) :
    ∃ o k d, step s = .next (s.ticked o k d) := by
  obtain ⟨o, k, d, h⟩ := step_running hr (by simp [hf])
  rw [State.loopPhase_wrReq_pending hf hp,
    State.present_pending (s := s.withPorts o k d) hp] at h
  exact ⟨_, _, _, h⟩

theorem step_wrReq_taken (hf : s.fsm = .wrReq) (hp : s.pins.tpReqReady = true) :
    ∃ o k d, step s = .next (State.handFrame { s.ticked o k d with
      fsm := .wrWait, requests := s.requests ++ [writeWord s.busAddr s.code] } s.code) := by
  obtain ⟨o, k, d, h⟩ := step_running hr (by simp [hf])
  rw [State.loopPhase_wrReq_taken hf hp,
    State.present_taken (s := s.withPorts o k d) hp, State.handFrame_endCycle] at h
  exact ⟨_, _, _, h⟩

theorem step_wrWait_silent (hf : s.fsm = .wrWait) (hv : s.pins.tpRspValid = false) :
    ∃ o k d, step s = .next (s.ticked o k d) := by
  obtain ⟨o, k, d, h⟩ := step_running hr (by simp [hf])
  rw [State.loopPhase_wrWait hf,
    State.writeWait_silent (s := s.withPorts o k d) hv] at h
  exact ⟨_, _, _, h⟩

theorem step_wrWait_periodic (hf : s.fsm = .wrWait) (hv : s.pins.tpRspValid = true)
    (hok : s.pins.tpRsp.writeOk = true) (hm : s.mode ≠ 0) :
    ∃ o k d, step s = .next { s.ticked o k d with lastCode := s.code, fsm := .pSample } := by
  obtain ⟨o, k, d, h⟩ := step_running hr (by simp [hf])
  rw [State.loopPhase_wrWait hf,
    State.writeWait_ok (s := s.withPorts o k d) hv hok,
    State.writeDone_periodic (s := s.withPorts o k d) hm] at h
  exact ⟨_, _, _, h⟩

theorem step_wrWait_hold (hf : s.fsm = .wrWait) (hv : s.pins.tpRspValid = true)
    (hok : s.pins.tpRsp.writeOk = true) (hm : s.mode = 0) (hl : s.stepLen.toNat ≠ 1) :
    ∃ o k d, step s = .next { s.ticked o k d with lastCode := s.code, fsm := .sHold } := by
  obtain ⟨o, k, d, h⟩ := step_running hr (by simp [hf])
  rw [State.loopPhase_wrWait hf,
    State.writeWait_ok (s := s.withPorts o k d) hv hok,
    State.writeDone_hold (s := s.withPorts o k d) hm hl] at h
  exact ⟨_, _, _, h⟩

theorem step_sHold_early (hf : s.fsm = .sHold) (h : s.held.toNat * s.ftw.toNat < 2 ^ 32) :
    ∃ o k d, step s = .next (s.ticked o k d) := by
  obtain ⟨o, k, d, hs⟩ := step_running hr (by simp [hf])
  rw [State.loopPhase_sHold hf,
    State.hold_of_early (s := s.withPorts o k d) h] at hs
  exact ⟨_, _, _, hs⟩

theorem step_sHold_next (hf : s.fsm = .sHold) (hover : 2 ^ 32 ≤ s.held.toNat * s.ftw.toNat)
    (hi : s.idx.toNat + 1 ≠ s.stepLen.toNat) (hw : s.table.read (s.idx.toNat + 1) = some w) :
    ∃ o k d, step s = .next { s.ticked o k d with
      idx := BitVec.ofNat 8 (s.idx.toNat + 1), es := s.now, code := quantize s.par.fullScaleUv w.toInt,
      fsm := .selReq } := by
  obtain ⟨o, k, d, h⟩ := step_running hr (by simp [hf])
  rw [State.loopPhase_sHold hf,
    State.hold_of_next (s := s.withPorts o k d) hover hi, State.withPorts_idx,
    State.issueEntry_eq_issuedEntry (s := s.withPorts o k d) hw] at h
  exact ⟨_, _, _, h⟩

theorem step_sHold_wrap (hf : s.fsm = .sHold) (hover : 2 ^ 32 ≤ s.held.toNat * s.ftw.toNat)
    (hi : s.idx.toNat + 1 = s.stepLen.toNat) (hn : s.repeatN.toNat = 0 ∨ s.cyc.toNat + 1 < s.repeatN.toNat)
    (hw : s.table.read 0 = some w) :
    ∃ o k d, step s = .next { s.ticked o k d with
      cyc := s.cyc + 1, idx := 0, es := s.now, code := quantize s.par.fullScaleUv w.toInt, fsm := .selReq } := by
  obtain ⟨o, k, d, h⟩ := step_running hr (by simp [hf])
  rw [State.loopPhase_sHold hf,
    State.hold_of_wrap (s := s.withPorts o k d) hover hi hn,
    State.issueEntry_eq_issuedEntry (s := (s.withPorts o k d).countPass) hw] at h
  exact ⟨_, _, _, h⟩

theorem step_sHold_done (hf : s.fsm = .sHold) (hover : 2 ^ 32 ≤ s.held.toNat * s.ftw.toNat)
    (hi : s.idx.toNat + 1 = s.stepLen.toNat) (h0 : 0 < s.repeatN.toNat) (hn : s.repeatN.toNat ≤ s.cyc.toNat + 1) :
    ∃ o k d, step s = .next { s.ticked o k d with
      cyc := s.cyc + 1, fsm := .stopped, done := true, err := .none, errCount := 0 } := by
  obtain ⟨o, k, d, h⟩ := step_running hr (by simp [hf])
  rw [State.loopPhase_sHold hf,
    State.hold_of_done (s := s.withPorts o k d) hover hi h0 hn] at h
  exact ⟨_, _, _, h⟩

end Cycle

/-! ### The pins of the cycles to come -/

/-- What the listed pins all meet, and idle pins too, the pins of this cycle meet. -/
theorem State.pins_of_forall {P : Pins → Prop} (h : ∀ p ∈ s.inputs, P p) (hi : P Pins.idle) : P s.pins := by
  rw [State.pins]
  cases hs : s.inputs with
  | nil => exact hi
  | cons p ps => exact h p (hs ▸ List.mem_cons_self)

theorem State.pins_cons {p : Pins} {ps : List Pins} (h : s.inputs = p :: ps) : s.pins = p := by
  rw [State.pins, h]
  rfl

/-- A cycle without reset advances NOW and the pins (R25). -/
theorem step_timeBase (hr : s.pins.rst = false) (h : step s = .next t) :
    t.now = s.now + 1 ∧ t.inputs = s.inputs.tail := by
  obtain ⟨u, hu, hnow, hin⟩ := nowAdvancesInEveryCycle s hr
  cases hu.symm.trans h
  exact ⟨hnow, hin⟩

/-! ### START and the cycles after it (R56, R69, R101) -/

/-- Only an accepted START leaves STOPPED, and it leaves the state R56 gives. -/
theorem step_leaves_stopped (hf : s.fsm = .stopped) (hs : step s = .next t) (ht : t.fsm ≠ .stopped) :
    s.pins.rst = false
    ∧ (s.pins.hpValid = true ∧ s.pins.hpWe = true ∧ s.pins.hpAddr = cmdSlot
      ∧ s.pins.hpWdata.extractLsb' 0 8 = startOpcode)
    ∧ s.startError = .none ∧ t = (s.beginCycle.accept s.mode).endCycle := by
  cases hr : s.pins.rst with
  | true =>
    cases (step_reset hr).symm.trans hs
    exact absurd rfl ht
  | false =>
    cases (step_live hr).symm.trans hs
    rw [State.loopPhase_stopped hf] at ht ⊢
    rcases s.hostPhase_cases with h | ⟨-, -, h⟩ | ⟨hv, hw, ha, ho, h⟩ | ⟨-, -, -, -, h⟩ <;> rw [h] at ht ⊢
    · exact absurd hf ht
    · obtain ⟨d, hd⟩ := s.beginCycle.hostRead_cases s.pins.hpAddr
      rw [hd] at ht
      exact absurd hf ht
    · rcases s.beginCycle.startCommand_cases with ⟨-, hc⟩ | ⟨-, hok, hc⟩ | ⟨-, -, hc⟩ <;> rw [hc] at ht ⊢
      · exact absurd hf ht
      · exact ⟨rfl, ⟨hv, hw, ha, ho⟩, hok, rfl⟩
      · exact absurd hf ht
    · cases hreg : regOf s.par.stepDepth s.pins.hpAddr <;> rw [hreg] at ht <;> exact absurd hf ht

/-- After an accepted START STATUS reads as RUNNING alone (R21, R56). -/
theorem State.accept_status (s : State) (m : BitVec 2) : (s.accept m).status = 1 := by
  have hrun : (s.accept m).running = true := by
    rcases accept_fsm_cases s m with ⟨-, h⟩ | ⟨-, h⟩ <;> rw [State.running_eq_true, h] <;> exact nofun
  rw [State.status, hrun, State.accept_errCount, State.accept_err, State.accept_done]
  rfl

/-- A run begins with an issue: S_ENTRY always issues, and P_SAMPLE does so where no tick has elapsed, since it has then
counted no period (R70, R71). -/
theorem step_begun (hr : s.pins.rst = false) (hf : s.fsm = .sEntry ∨ (s.fsm = .pSample ∧ s.elapsed = 0))
    (hs : step s = .next t) : t.fsm = .selReq := by
  rcases hf with hf | ⟨hf, he⟩
  · cases (step_live hr).symm.trans hs
    rw [State.endCycle_fsm, State.loopPhase_sEntry hf]
    rfl
  · have hn : phasePeriods s.elapsed s.ftw = 0 := by
      rw [he, phasePeriods, phaseProduct, show (0 : Ticks).toNat = 0 from rfl, Nat.zero_mul, Nat.zero_div]
    obtain ⟨o, k, d, h⟩ := step_pSample_issues hr hf (by omega)
    cases h.symm.trans hs
    rfl

/-- SEL_REQ does not end a run (R72). -/
theorem step_selReq_running (hr : s.pins.rst = false) (hf : s.fsm = .selReq) (hs : step s = .next t) :
    t.fsm ≠ .stopped := by
  cases hp : s.pins.tpReqReady with
  | true =>
    obtain ⟨o, k, d, h⟩ := step_selReq_taken hr hf hp
    cases h.symm.trans hs
    exact nofun
  | false =>
    obtain ⟨o, k, d, h⟩ := step_selReq_pending hr hf hp
    cases h.symm.trans hs
    show s.fsm ≠ .stopped
    simp [hf]

/-- A run that begins has not ended in the two cycles after its first (R101 item 3). -/
theorem run_begun (hf : s.fsm = .sEntry ∨ (s.fsm = .pSample ∧ s.elapsed = 0)) {n : Nat} (hn : n ≤ 2)
    (hr : ∀ p ∈ s.inputs, p.rst = false) : ∃ u, Host.Core.run core n s = .next u ∧ u.fsm ≠ .stopped := by
  have hr₀ : s.pins.rst = false := State.pins_of_forall hr rfl
  have h₁ := step_eq s
  have hissued := step_begun hr₀ hf h₁
  match n, hn with
  | 0, _ => exact ⟨s, rfl, by rcases hf with hf | ⟨hf, -⟩ <;> simp [hf]⟩
  | 1, _ => exact ⟨_, run_succ 0 h₁, by simp [hissued]⟩
  | 2, _ =>
    have h₂ := step_eq (if s.pins.rst then s.resetEdge else (s.loopPhase s.hostPhase).endCycle)
    refine ⟨_, (run_succ 1 h₁).trans (run_succ 0 h₂), step_selReq_running ?_ hissued h₂⟩
    refine State.pins_of_forall (fun p hp => hr p (List.mem_of_mem_tail ?_)) rfl
    rwa [(step_timeBase hr₀ h₁).2] at hp

/-- Settles O37: only an accepted START leaves STOPPED, and the run then begins with an issue. -/
theorem onlyAnAcceptedStartLeavesStopped : Obligations.OnlyAnAcceptedStartLeavesStopped := by
  intro s t hf hs ht
  obtain ⟨hr, ⟨hv, hw, ha, ho⟩, hok, rfl⟩ := step_leaves_stopped hf hs ht
  obtain ⟨havail, hmode, hftw, hlen⟩ := State.startError_none.mp hok
  refine ⟨hr, hv, hw, ha, (opcode_eq_start_iff _).mp ho, havail, hmode, hftw,
    fun hm => (hlen hm).imp_left Nat.one_le_iff_ne_zero.mpr, rfl, rfl, rfl, rfl, rfl, rfl, rfl, rfl,
    s.beginCycle.accept_status s.mode, fun n hn hin => run_begun ?_ hn hin⟩
  rcases accept_fsm_cases s.beginCycle s.mode with ⟨-, h⟩ | ⟨-, h⟩
  · exact .inl h
  · exact .inr ⟨h, BitVec.sub_self _⟩

/-! ### STOPPED without a START (R69, R80, R88) -/

/-- What is left of the last run is the same, and the block is still stopped. -/
structure StaysStopped (u v : State) : Prop where
  /-- The block is stopped. -/
  fsm : v.fsm = .stopped
  /-- No request has transferred. -/
  requests : v.requests = u.requests
  /-- No frame has been handed over. -/
  wire : v.wire = u.wire
  /-- DONE, ERR and ERR_COUNT are the same. -/
  status : v.done = u.done ∧ v.err = u.err ∧ v.errCount = u.errCount
  /-- CYC and IDX are the same. -/
  counters : v.cyc = u.cyc ∧ v.idx = u.idx
  /-- LAST_CODE and CODE are the same. -/
  codes : v.lastCode = u.lastCode ∧ v.code = u.code

theorem StaysStopped.refl (hf : u.fsm = .stopped) : StaysStopped u u :=
  ⟨hf, rfl, rfl, ⟨rfl, rfl, rfl⟩, ⟨rfl, rfl⟩, rfl, rfl⟩

/-- A write to CMD with the low byte 0x01 (R43, R56). -/
def Pins.PresentsStart (p : Pins) : Prop :=
  p.hpValid = true ∧ p.hpWe = true ∧ p.hpAddr = 0x001 ∧ p.hpWdata.toNat % 256 = 1

/-- Without a reset and a START a cycle in STOPPED is a read, a register write or nothing. -/
theorem step_stopped (hf : s.fsm = .stopped) (hr : s.pins.rst = false) (hstart : ¬ s.pins.PresentsStart)
    (hs : step s = .next t) : StaysStopped s t := by
  have h0 := StaysStopped.refl hf
  cases (step_live hr).symm.trans hs
  rw [State.loopPhase_stopped hf]
  rcases s.hostPhase_cases with h | ⟨-, -, h⟩ | ⟨hv, hw, ha, ho, -⟩ | ⟨-, -, -, -, h⟩
  · rw [h]
    exact { h0 with }
  · obtain ⟨d, hd⟩ := s.beginCycle.hostRead_cases s.pins.hpAddr
    rw [h, hd]
    exact { h0 with }
  · exact absurd ⟨hv, hw, ha, (opcode_eq_start_iff _).mp ho⟩ hstart
  · rw [h]
    cases regOf s.par.stepDepth s.pins.hpAddr <;> exact { h0 with }

theorem add_one_add_ofNat (x : Ticks) (n : Nat) : x + 1 + BitVec.ofNat 64 n = x + BitVec.ofNat 64 (n + 1) := by
  rw [BitVec.add_assoc, Nat.add_comm n 1, BitVec.ofNat_add]
  rfl

/-- Settles O58, by induction on the number of cycles. -/
theorem stoppedStaysQuietUntilAStart : Obligations.StoppedStaysQuietUntilAStart := by
  intro n
  induction n with
  | zero => exact fun s hf _ => ⟨s, rfl, hf, rfl, rfl, rfl, rfl, rfl, rfl, rfl, rfl, rfl, (BitVec.add_zero _).symm⟩
  | succ n ih =>
    intro s hf hpins
    obtain ⟨hr, hstart⟩ : s.pins.rst = false ∧ ¬ s.pins.PresentsStart :=
      State.pins_of_forall (P := fun p => p.rst = false ∧ ¬ p.PresentsStart) hpins ⟨rfl, fun h => nomatch h.1⟩
    have hs := step_eq s
    have h := step_stopped hf hr hstart hs
    obtain ⟨hnow, hin⟩ := step_timeBase hr hs
    obtain ⟨u, hrun, hfsm, hreq, hwire, hdone, herr, hcount, hcyc, hidx, hlast, hcode, hunow⟩ :=
      ih _ h.fsm fun p hp => hpins p (List.mem_of_mem_tail (hin ▸ hp))
    obtain ⟨hdone', herr', hcount'⟩ := h.status
    obtain ⟨hcyc', hidx'⟩ := h.counters
    obtain ⟨hlast', hcode'⟩ := h.codes
    exact ⟨u, (run_succ n hs).trans hrun, hfsm, hreq.trans h.requests, hwire.trans h.wire, hdone.trans hdone',
      herr.trans herr', hcount.trans hcount', hcyc.trans hcyc', hidx.trans hidx', hlast.trans hlast',
      hcode.trans hcode', by rw [hunow, hnow, add_one_add_ofNat]⟩

/-! ### The hold of a step entry (R76, R81) -/

/-- A tick without overflow adds one to H. -/
theorem State.ticked_held {o : Outputs} {k d : Nat} (h : s.held.toNat + 1 < 2 ^ 64) :
    (s.ticked o k d).held.toNat = s.held.toNat + 1 := by
  have hadd : (s.ticked o k d).held = s.held + 1 := by
    show s.now + 1 - s.es = s.now - s.es + 1
    bv_omega
  rw [hadd, BitVec.toNat_add]
  exact Nat.mod_eq_of_lt h

/-- Settles O57, by induction on the number of cycles: each is an early S_HOLD cycle. -/
theorem stepEntryIsHeldForItsPeriod : Obligations.StepEntryIsHeldForItsPeriod := by
  intro n
  induction n with
  | zero =>
    exact fun s hf _ _ _ _ => ⟨s, rfl, hf, (BitVec.add_zero _).symm, rfl, rfl, rfl, rfl, rfl, .refl s, rfl⟩
  | succ n ih =>
    intro s hf hm hquiet hlt hlast
    have hearly : s.held.toNat * s.ftw.toNat < 2 ^ 32 := by
      have hle : (s.held.toNat + 1) * s.ftw.toNat ≤ (s.held.toNat + (n + 1)) * s.ftw.toNat :=
        Nat.mul_le_mul_right _ (by omega)
      rw [Nat.add_mul, Nat.one_mul] at hle
      omega
    obtain ⟨hr, -⟩ := hquiet 0 (Nat.succ_pos n)
    obtain ⟨o, k, d, hs⟩ := step_sHold_early hr hf hearly
    have hheld := State.ticked_held (s := s) (o := o) (k := k) (d := d) (by omega)
    obtain ⟨u, hrun, hfsm, hnow, hes, hidx, hcyc, hreq, hcode, hconfig, hin⟩ :=
      ih (s.ticked o k d) hf hm
        (fun j hj => by
          have h := hquiet (j + 1) (by omega)
          rwa [← List.drop_tail] at h)
        (by omega) (by rw [hheld, Nat.add_assoc, Nat.add_comm 1]; exact hlast)
    exact ⟨u, (run_succ n hs).trans hrun, hfsm, hnow.trans (add_one_add_ofNat _ _), hes, hidx, hcyc, hreq, hcode,
      hconfig, hin.trans List.drop_tail⟩

/-! ### A periodic iteration (R81) -/

/-- What the transactions of an iteration keep of the run: its configuration, T0, the count and the code issued. -/
structure SameIteration (u v : State) : Prop where
  /-- The configuration is the same (R54). -/
  config : SameConfig u v
  /-- T0 is the same (R26). -/
  t0 : v.t0 = u.t0
  /-- CYC is the same (R22). -/
  cyc : v.cyc = u.cyc
  /-- CODE is the same (R27). -/
  code : v.code = u.code

theorem SameIteration.refl (u : State) : SameIteration u u :=
  ⟨SameConfig.refl u, rfl, rfl, rfl⟩

/-- A cycle of a transaction keeps them: it moves the FSM and the bus, and may record LAST_CODE. -/
theorem SameIteration.ticked (s : State) (o : Outputs) (k d : Nat) (f : Fsm) (ws : List (BitVec 24)) (c : Code) :
    SameIteration s { s.ticked o k d with fsm := f, requests := ws, lastCode := c } :=
  { SameIteration.refl s with }

theorem SameIteration.handFrame (h : SameIteration s u) (c : Code) : SameIteration s (u.handFrame c) :=
  { h with }

theorem SameIteration.trans (h : SameIteration s t) (h' : SameIteration t u) : SameIteration s u :=
  ⟨h.config.trans h'.config, h'.t0.trans h.t0, h'.cyc.trans h.cyc, h'.code.trans h.code⟩

theorem SameIteration.mode (h : SameIteration s t) : t.mode = s.mode := by
  obtain ⟨-, hctrl, -⟩ := h.config
  exact State.mode_congr hctrl

theorem SameIteration.busAddr (h : SameIteration s t) : t.busAddr = s.busAddr := by
  obtain ⟨hpar, hctrl, -⟩ := h.config
  exact State.busAddr_congr hctrl hpar

/-- A run of `m` cycles and then one of `n` is a run of `m + n`. -/
theorem run_add {m n : Nat} (h : Host.Core.run core m s = .next t) (hu : Host.Core.run core n t = .next u) :
    Host.Core.run core (m + n) s = .next u := by
  induction m generalizing s with
  | zero =>
    cases h
    rwa [Nat.zero_add]
  | succ m ih =>
    rw [run_succ m (step_eq s)] at h
    rw [Nat.add_right_comm, run_succ (m + n) (step_eq s)]
    exact ih h

section Iteration

variable {p q : Pins} {ps : List Pins}

theorem State.rst_of_quietHost (hin : s.inputs = p :: ps) (hp : QuietHost p) : s.pins.rst = false := by
  rw [State.pins_cons hin, hp.1]

/-- After a cycle without reset the next pins stand on the ports. -/
theorem step_inputs_cons (hin : s.inputs = p :: ps) (hp : QuietHost p) (h : step s = .next t) : t.inputs = ps := by
  obtain ⟨-, ht⟩ := step_timeBase (State.rst_of_quietHost hin hp) h
  rw [ht, hin, List.tail_cons]

theorem State.ready_of_takesRequest (hin : s.inputs = p :: ps) (hp : TakesRequest p) : s.pins.tpReqReady = true := by
  rw [State.pins_cons hin, hp.2]

theorem State.answer_of_answersOk (hin : s.inputs = p :: ps) (hp : AnswersOk p) :
    s.pins.tpRspValid = true ∧ s.pins.tpRsp = { ok := true, count := 2 } := by
  rw [State.pins_cons hin]
  exact hp.2

/-- A SELECT that is taken at once and answered well in the next cycle (R72, R73). -/
theorem run_select (hin : s.inputs = p :: q :: ps) (hp : TakesRequest p) (hq : AnswersOk q) (hf : s.fsm = .selReq) :
    ∃ t, Host.Core.run core 2 s = .next t ∧ SameIteration s t ∧ t.fsm = .wrReq ∧ t.now = s.now + 2 ∧ t.inputs = ps
      ∧ t.requests = s.requests ++ [selectWord s.busAddr] ∧ t.wire = s.wire := by
  obtain ⟨_, _, _, h₁⟩ := step_selReq_taken (State.rst_of_quietHost hin hp.1) hf (State.ready_of_takesRequest hin hp)
  have hin₁ := step_inputs_cons hin hp.1 h₁
  obtain ⟨hv, hok⟩ := State.answer_of_answersOk hin₁ hq
  obtain ⟨_, _, _, h₂⟩ := step_selWait_ok (State.rst_of_quietHost hin₁ hq.1) rfl hv (by rw [hok])
  exact ⟨_, (run_succ 1 h₁).trans (run_succ 0 h₂), (SameIteration.ticked ..).trans (.ticked ..), rfl,
    BitVec.add_assoc _ 1 1, step_inputs_cons hin₁ hq.1 h₂, rfl, rfl⟩

/-- A WRITE of a periodic mode that is taken at once and answered well in the next cycle (R74, R75). -/
theorem run_write (hin : s.inputs = p :: q :: ps) (hp : TakesRequest p) (hq : AnswersOk q) (hf : s.fsm = .wrReq)
    (hm : s.mode ≠ 0) :
    ∃ t, Host.Core.run core 2 s = .next t ∧ SameIteration s t ∧ t.fsm = .pSample ∧ t.now = s.now + 2 ∧ t.inputs = ps
      ∧ t.requests = s.requests ++ [writeWord s.busAddr s.code]
      ∧ t.wire = s.wire ++ [frameByte0 s.code, frameByte1 s.code] ∧ t.lastCode = s.code := by
  obtain ⟨_, _, _, h₁⟩ := step_wrReq_taken (State.rst_of_quietHost hin hp.1) hf (State.ready_of_takesRequest hin hp)
  have hin₁ := step_inputs_cons hin hp.1 h₁
  obtain ⟨hv, hok⟩ := State.answer_of_answersOk hin₁ hq
  obtain ⟨_, _, _, h₂⟩ := step_wrWait_periodic (State.rst_of_quietHost hin₁ hq.1) rfl hv (by rw [hok]; rfl) hm
  exact ⟨_, (run_succ 1 h₁).trans (run_succ 0 h₂), ((SameIteration.ticked ..).handFrame _).trans (.ticked ..),
    rfl, BitVec.add_assoc _ 1 1, step_inputs_cons hin₁ hq.1 h₂, rfl, rfl, rfl⟩

end Iteration

/-- Settles O56: a sample, and then the SELECT and the WRITE, each taken at once and answered in the next cycle. -/
theorem periodicIterationLastsFiveTicks : Obligations.PeriodicIterationLastsFiveTicks := by
  intro s p₀ p₁ p₂ p₃ p₄ rest hin hp₀ hp₁ hp₂ hp₃ hp₄ hf hm hn
  have hm0 : s.mode ≠ 0 := by rcases hm with hm | hm <;> simp [hm]
  obtain ⟨_, _, _, h₁⟩ := step_pSample_issues (State.rst_of_quietHost hin hp₀) hf hn
  obtain ⟨t, hrun₃, hkeep₃, hf₃, hnow₃, hin₃, hreq₃, hwire₃⟩ :=
    run_select (step_inputs_cons hin hp₀ h₁) hp₁ hp₂ rfl
  obtain ⟨u, hrun₅, hkeep₅, hf₅, hnow₅, hin₅, hreq₅, hwire₅, hlast₅⟩ :=
    run_write hin₃ hp₃ hp₄ hf₃ (by rw [hkeep₃.mode]; exact hm0)
  have hkeep := hkeep₃.trans hkeep₅
  refine ⟨u, _, (run_succ 4 h₁).trans (run_add hrun₃ hrun₅), rfl, hf₅, ?_, hkeep.t0, hkeep.cyc, hkeep.code,
    hlast₅.trans hkeep₃.code, ?_, ?_, hin₅, hkeep.config⟩
  · rw [hnow₅, hnow₃]
    show s.now + 1 + 2 + 2 = s.now + 5
    bv_omega
  · rw [hreq₅, hreq₃, hkeep₃.busAddr, hkeep₃.code, List.append_assoc]
    rfl
  · rw [hwire₅, hwire₃, hkeep₃.code]
    rfl

end Sys2Proof.Machine

end

section

namespace Sys2Proof.Safety

open Sys2Proof.Machine

variable {s t : State}

/-! ### A run that is served (R68, R80) -/

/-- The cycle in which a served run is, is a served one. -/
theorem ServesTheRun.now (h : ServesTheRun s) (hf : s.fsm ≠ .stopped) : ServedCycle s := by
  refine h 0 s rfl fun k u hk hu => ?_
  obtain rfl := Nat.le_zero.mp hk
  cases hu
  exact hf

/-- A served run stays served from one cycle to the next. -/
theorem ServesTheRun.next (h : ServesTheRun s) (hf : s.fsm ≠ .stopped) (hs : step s = .next t) : ServesTheRun t := by
  intro n u hrun hlive
  refine h (n + 1) u ((run_succ n hs).trans hrun) fun k v hk hv => ?_
  cases k with
  | zero =>
    cases hv
    exact hf
  | succ k =>
    rw [run_succ k hs] at hv
    exact hlive k v (by omega) hv

end Sys2Proof.Safety

namespace Sys2Proof.Machine

open Sys2Proof.Safety

variable {s t u : State}

/-! ### What a run reaches -/

/-- Some number of cycles leads from `s` to a state that meets `Q`. -/
def Reaches (s : State) (Q : State → Prop) : Prop :=
  ∃ n t, Host.Core.run core n s = .next t ∧ Q t

theorem Reaches.now {Q : State → Prop} (h : Q s) : Reaches s Q :=
  ⟨0, s, rfl, h⟩

theorem Reaches.after {Q : State → Prop} (h : step s = .next t) (ht : Reaches t Q) : Reaches s Q := by
  obtain ⟨n, u, hrun, hu⟩ := ht
  exact ⟨n + 1, u, (run_succ n h).trans hrun, hu⟩

theorem Reaches.trans {P Q : State → Prop} (h : Reaches s P) (hPQ : ∀ t, P t → Reaches t Q) : Reaches s Q := by
  obtain ⟨m, t, hm, ht⟩ := h
  obtain ⟨n, u, hn, hu⟩ := hPQ t ht
  exact ⟨m + n, u, run_add hm hn, hu⟩

/-- Where every cycle in `P`, whose FSM state is `f`, stays in `P` or leads to `Q`, a run that leaves `f` reaches
`Q`. -/
theorem Reaches.of_leaves {P Q : State → Prop} {f : Fsm} (hf : ∀ t, P t → t.fsm = f)
    (hstep : ∀ t u, P t → step t = .next u → P u ∨ Q u) {m : Nat} (hs : P s)
    (hm : Host.Core.run core m s = .next u) (hu : u.fsm ≠ f) : Reaches s Q := by
  induction m generalizing s with
  | zero =>
    cases hm
    exact absurd (hf _ hs) hu
  | succ m ih =>
    have h := step_eq s
    rw [run_succ m h] at hm
    rcases hstep _ _ hs h with hP | hQ
    · exact .after h (ih hP hm)
    · exact .after h (.now hQ)

/-! ### The course of a step run (R71 to R77, R80) -/

/-- The two bytes of each code's frame, in wire order (R34, R48). -/
def frameBytes (codes : List Code) : List Byte :=
  codes.flatMap fun c => [frameByte0 c, frameByte1 c]

/-- A step run to come: the codes of its entries, its number of passes, and all the bytes handed over by its end. -/
structure StepPlan where
  /-- The codes of the entries, in order. -/
  codes : List Code
  /-- REPEAT. -/
  passes : Nat
  /-- The bytes handed over by the end of the run, with those of the time before it. -/
  total : List Byte

namespace StepPlan

variable {P : StepPlan} {f : Fsm} {p i j : Nat}

/-- The codes still to be written when `p` passes are complete and `j` entries of the pass have been written. -/
def left (P : StepPlan) (p j : Nat) : List Code :=
  P.codes.drop j ++ (List.replicate (P.passes - 1 - p) P.codes).flatten

theorem left_of_entry {c : Code} (h : P.codes[j]? = some c) : P.left p j = c :: P.left p (j + 1) := by
  obtain ⟨hj, rfl⟩ := List.getElem?_eq_some_iff.mp h
  rw [left, left, List.drop_eq_getElem_cons hj, List.cons_append]

/-- At the end of a pass that is not the last one, what is left is what is left at the start of the next. -/
theorem left_wrap (hp : p + 1 < P.passes) : P.left p P.codes.length = P.left (p + 1) 0 := by
  rw [left, left, List.drop_length, List.drop_zero, List.nil_append,
    show P.passes - 1 - p = P.passes - 1 - (p + 1) + 1 by omega, List.replicate_succ, List.flatten_cons]

/-- At the end of the last pass nothing is left. -/
theorem left_done (hp : p + 1 = P.passes) : P.left p P.codes.length = [] := by
  rw [left, List.drop_length, List.nil_append, show P.passes - 1 - p = 0 by omega]
  rfl

/-- The configuration is that of the run planned: step mode, with the entries of the codes written. -/
structure Programmed (P : StepPlan) (t : State) : Prop where
  /-- The mode is the step sequence (R44). -/
  mode : t.mode = 0
  /-- FTW is not 0 (R18). -/
  ftw : t.ftw ≠ 0
  /-- REPEAT is the number of passes (R19). -/
  passes : t.repeatN.toNat = P.passes
  /-- There is an entry for each code (R20). -/
  length : P.codes.length = t.stepLen.toNat
  /-- There are at least two entries, so that each is held (R77). -/
  two_le : 2 ≤ P.codes.length
  /-- IDX counts the entries (R24). -/
  le_depth : P.codes.length ≤ 256
  /-- Each entry is written, and its voltage quantizes to its code (R28, R59, R66). -/
  entries : ∀ i, i < P.codes.length →
    ∃ w, t.table.read i = some w ∧ P.codes[i]? = some (quantize t.par.fullScaleUv w.toInt)

/-- The run is in the FSM state `f` at entry `i` of the pass `p`, with `j` entries of the pass written. -/
structure At (P : StepPlan) (f : Fsm) (p i j : Nat) (t : State) : Prop where
  /-- The transport serves the rest of the run. -/
  served : ServesTheRun t
  /-- The configuration is that of the plan. -/
  programmed : P.Programmed t
  /-- The FSM state. -/
  fsm : t.fsm = f
  /-- CYC counts the passes. -/
  cyc : t.cyc.toNat = p
  /-- IDX is the entry. -/
  idx : t.idx.toNat = i
  /-- CODE is the entry's. -/
  code : P.codes[i]? = some t.code
  /-- The frames handed over and those left are all the frames of the run. -/
  wire : t.wire ++ frameBytes (P.left p j) = P.total

/-- The run has ended well, with all frames handed over (R78, R80). -/
structure Ended (P : StepPlan) (t : State) : Prop where
  /-- The block is stopped. -/
  fsm : t.fsm = .stopped
  /-- DONE is set. -/
  done : t.done = true
  /-- There is no error. -/
  err : t.err = .none
  /-- CYC counts all passes. -/
  cyc : t.cyc.toNat = P.passes
  /-- All frames have been handed over. -/
  wire : t.wire = P.total

theorem At.cycle (h : P.At f p i j t) (hf : f ≠ .stopped) : ServedCycle t :=
  h.served.now (h.fsm ▸ hf)

theorem At.live (h : P.At f p i j t) (hf : f ≠ .stopped) : t.pins.rst = false :=
  (h.cycle hf).live

/-- A cycle in which the controller stays as it is stays at the same place. -/
theorem At.ticked (h : P.At f p i j t) (hf : f ≠ .stopped) {o : Outputs} {k d : Nat}
    (hs : step t = .next (t.ticked o k d)) : P.At f p i j (t.ticked o k d) :=
  { h with
    served := h.served.next (h.fsm ▸ hf) hs
    programmed := { h.programmed with } }

/-- A cycle that only moves the FSM, adds a request or records LAST_CODE stays at the same place but for the FSM. -/
theorem At.moved (h : P.At f p i j t) (hf : f ≠ .stopped) {g : Fsm} {o : Outputs} {k d : Nat} {ws : List (BitVec 24)}
    {c : Code} (hs : step t = .next { t.ticked o k d with fsm := g, requests := ws, lastCode := c }) :
    P.At g p i j { t.ticked o k d with fsm := g, requests := ws, lastCode := c } :=
  { h with
    served := h.served.next (h.fsm ▸ hf) hs
    programmed := { h.programmed with }
    fsm := rfl }

/-- A run that the transport serves leaves a REQ or WAIT state for what its cycles lead to. -/
theorem At.reaches {Q : State → Prop} (h : P.At f p i j t)
    (hf : f = .selReq ∨ f = .selWait ∨ f = .wrReq ∨ f = .wrWait)
    (hstep : ∀ t u, P.At f p i j t → step t = .next u → P.At f p i j u ∨ Q u) : Reaches t Q := by
  have hrun : f ≠ .stopped := by rcases hf with rfl | rfl | rfl | rfl <;> exact nofun
  obtain ⟨m, u, hm, hu⟩ := (h.cycle hrun).serves (by rwa [h.fsm])
  exact .of_leaves (fun t h => h.fsm) hstep h hm (h.fsm ▸ hu)

/-- SEL_REQ: the SELECT transfers some time (R72). -/
theorem At.selReq (h : P.At .selReq p i j t) : Reaches t (P.At .selWait p i j) := by
  refine h.reaches (.inl rfl) fun t u h hs => ?_
  cases hp : t.pins.tpReqReady with
  | true =>
    obtain ⟨o, k, d, hs'⟩ := step_selReq_taken (h.live nofun) h.fsm hp
    cases hs'.symm.trans hs
    exact .inr (h.moved nofun hs')
  | false =>
    obtain ⟨o, k, d, hs'⟩ := step_selReq_pending (h.live nofun) h.fsm hp
    cases hs'.symm.trans hs
    exact .inl (h.ticked nofun hs')

/-- SEL_WAIT: the SELECT is answered some time, and well (R73). -/
theorem At.selWait (h : P.At .selWait p i j t) : Reaches t (P.At .wrReq p i j) := by
  refine h.reaches (.inr (.inl rfl)) fun t u h hs => ?_
  cases hv : t.pins.tpRspValid with
  | true =>
    obtain ⟨o, k, d, hs'⟩ := step_selWait_ok (h.live nofun) h.fsm hv ((h.cycle nofun).selects h.fsm hv)
    cases hs'.symm.trans hs
    exact .inr (h.moved nofun hs')
  | false =>
    obtain ⟨o, k, d, hs'⟩ := step_selWait_silent (h.live nofun) h.fsm hv
    cases hs'.symm.trans hs
    exact .inl (h.ticked nofun hs')

/-- WR_REQ: the WRITE of the entry transfers some time, with its frame (R74, R48). -/
theorem At.wrReq (h : P.At .wrReq p i i t) : Reaches t (P.At .wrWait p i (i + 1)) := by
  refine h.reaches (.inr (.inr (.inl rfl))) fun t u h hs => ?_
  cases hp : t.pins.tpReqReady with
  | true =>
    obtain ⟨o, k, d, hs'⟩ := step_wrReq_taken (h.live nofun) h.fsm hp
    cases hs'.symm.trans hs
    have hwire := h.wire
    rw [left_of_entry h.code] at hwire
    exact .inr { h with
      served := h.served.next (by simp [h.fsm]) hs'
      programmed := { h.programmed with }
      fsm := rfl
      wire := (List.append_assoc _ _ _).trans hwire }
  | false =>
    obtain ⟨o, k, d, hs'⟩ := step_wrReq_pending (h.live nofun) h.fsm hp
    cases hs'.symm.trans hs
    exact .inl (h.ticked nofun hs')

/-- WR_WAIT: the WRITE is answered some time, and well, and the entry is held (R75). -/
theorem At.wrWait (h : P.At .wrWait p i j t) : Reaches t (P.At .sHold p i j) := by
  refine h.reaches (.inr (.inr (.inr rfl))) fun t u h hs => ?_
  cases hv : t.pins.tpRspValid with
  | true =>
    have hok : t.pins.tpRsp.writeOk = true := (writeOk_iff _).mpr ((h.cycle nofun).writes h.fsm hv)
    have hl : t.stepLen.toNat ≠ 1 := by
      have := h.programmed.length
      have := h.programmed.two_le
      omega
    obtain ⟨o, k, d, hs'⟩ := step_wrWait_hold (h.live nofun) h.fsm hv hok h.programmed.mode hl
    cases hs'.symm.trans hs
    exact .inr (h.moved nofun hs')
  | false =>
    obtain ⟨o, k, d, hs'⟩ := step_wrWait_silent (h.live nofun) h.fsm hv
    cases hs'.symm.trans hs
    exact .inl (h.ticked nofun hs')

/-- An entry that is issued is written and then held. -/
theorem At.written (h : P.At .selReq p i i t) : Reaches t (P.At .sHold p i (i + 1)) :=
  (h.selReq.trans fun _ => At.selWait).trans (fun _ => At.wrReq) |>.trans fun _ => At.wrWait

/-- The hold of an entry is over some time: FTW is not 0, so H × FTW grows with H until it is 2^32 (R76). -/
theorem At.held (h : P.At .sHold p i j t) :
    Reaches t fun u => P.At .sHold p i j u ∧ 2 ^ 32 ≤ u.held.toNat * u.ftw.toNat := by
  obtain ⟨n, hn⟩ : ∃ n, 2 ^ 32 ≤ t.held.toNat + n := ⟨2 ^ 32, Nat.le_add_left _ _⟩
  induction n generalizing t with
  | zero => exact .now ⟨h, hn.trans (Nat.le_mul_of_pos_right _ (BitVec.toNat_pos_of_ne_zero h.programmed.ftw))⟩
  | succ n ih =>
    by_cases hover : 2 ^ 32 ≤ t.held.toNat * t.ftw.toNat
    · exact .now ⟨h, hover⟩
    · obtain ⟨o, k, d, hs⟩ := step_sHold_early (h.live nofun) h.fsm (Nat.not_le.mp hover)
      refine .after hs (ih (h.ticked nofun hs) ?_)
      have hlt : t.held.toNat < 2 ^ 32 :=
        (Nat.le_mul_of_pos_right _ (BitVec.toNat_pos_of_ne_zero h.programmed.ftw)).trans_lt (Nat.not_le.mp hover)
      rw [State.ticked_held (by omega)]
      omega

/-- After the hold of an entry that is not the last the next one is issued (R76). -/
theorem At.next (h : P.At .sHold p i j t) (hover : 2 ^ 32 ≤ t.held.toNat * t.ftw.toNat)
    (hi : i + 1 < P.codes.length) : Reaches t (P.At .selReq p (i + 1) j) := by
  obtain ⟨w, hw, hcode⟩ := h.programmed.entries (i + 1) hi
  have hlast : t.idx.toNat + 1 ≠ t.stepLen.toNat := by rw [h.idx, ← h.programmed.length]; omega
  obtain ⟨o, k, d, hs⟩ := step_sHold_next (h.live nofun) h.fsm hover hlast (by rw [h.idx]; exact hw)
  refine .after hs (.now { h with
    served := h.served.next (by simp [h.fsm]) hs
    programmed := { h.programmed with }
    fsm := rfl
    idx := ?_
    code := hcode })
  have := h.programmed.le_depth
  show (BitVec.ofNat 8 (t.idx.toNat + 1)).toNat = i + 1
  rw [h.idx, BitVec.toNat_ofNat, Nat.mod_eq_of_lt (by omega)]

/-- CYC counts a pass of the run without overflow. -/
theorem At.cyc_succ (h : P.At f p i j t) (hp : p < P.passes) : (t.cyc + 1).toNat = p + 1 := by
  have hpasses := h.programmed.passes
  have hlt := t.repeatN.isLt
  rw [BitVec.toNat_add, h.cyc, show (1 : Ticks).toNat = 1 from rfl]
  exact Nat.mod_eq_of_lt (by omega)

/-- After the hold of the last entry of a pass that is not the last, entry 0 is issued (R76). -/
theorem At.wrap (h : P.At .sHold p i P.codes.length t) (hover : 2 ^ 32 ≤ t.held.toNat * t.ftw.toNat)
    (hi : i + 1 = P.codes.length) (hp : p + 1 < P.passes) : Reaches t (P.At .selReq (p + 1) 0 0) := by
  obtain ⟨w, hw, hcode⟩ := h.programmed.entries 0 (by omega)
  have hlast : t.idx.toNat + 1 = t.stepLen.toNat := by rw [h.idx, ← h.programmed.length, hi]
  have hbelow : t.cyc.toNat + 1 < t.repeatN.toNat := by rw [h.cyc, h.programmed.passes]; exact hp
  obtain ⟨o, k, d, hs⟩ := step_sHold_wrap (h.live nofun) h.fsm hover hlast (.inr hbelow) hw
  exact .after hs (.now {
    served := h.served.next (by simp [h.fsm]) hs
    programmed := { h.programmed with }
    fsm := rfl
    cyc := h.cyc_succ (by omega)
    idx := rfl
    code := hcode
    wire := left_wrap hp ▸ h.wire })

/-- After the hold of the last entry of the last pass the run ends (R76, R78). -/
theorem At.done (h : P.At .sHold p i P.codes.length t) (hover : 2 ^ 32 ≤ t.held.toNat * t.ftw.toNat)
    (hi : i + 1 = P.codes.length) (hp : p + 1 = P.passes) : Reaches t P.Ended := by
  have hlast : t.idx.toNat + 1 = t.stepLen.toNat := by rw [h.idx, ← h.programmed.length, hi]
  have hreached : t.repeatN.toNat ≤ t.cyc.toNat + 1 := by rw [h.cyc, h.programmed.passes, hp]
  have hpos : 0 < t.repeatN.toNat := by rw [h.programmed.passes]; omega
  obtain ⟨o, k, d, hs⟩ := step_sHold_done (h.live nofun) h.fsm hover hlast hpos hreached
  have hwire := h.wire
  rw [left_done hp, frameBytes, List.flatMap_nil, List.append_nil] at hwire
  exact .after hs (.now ⟨rfl, rfl, rfl, (h.cyc_succ (by omega)).trans hp, hwire⟩)

/-- A pass: from the issue of an entry the run reaches the end of the hold of the last one. -/
theorem At.pass (h : P.At .selReq p i i t) {n : Nat} (hn : i + n + 1 = P.codes.length) :
    Reaches t fun u =>
      P.At .sHold p (i + n) P.codes.length u ∧ 2 ^ 32 ≤ u.held.toNat * u.ftw.toNat := by
  induction n generalizing t i with
  | zero =>
    refine h.written.trans fun u hu => ?_
    rw [← hn]
    exact hu.held
  | succ n ih =>
    have hrest {u : State} (hu : P.At .selReq p (i + 1) (i + 1) u) := ih hu (by omega)
    rw [Nat.add_right_comm, Nat.add_assoc] at hrest
    exact h.written.trans fun u hu => hu.held.trans fun v ⟨hv, hover⟩ =>
      (hv.next hover (by omega)).trans fun w hw => hrest hw

/-- All passes: from the issue of the first entry of a pass the run reaches its end. -/
theorem At.ends (h : P.At .selReq p 0 0 t) {n : Nat} (hn : p + n + 1 = P.passes) : Reaches t P.Ended := by
  have hlen : 0 + (P.codes.length - 1) + 1 = P.codes.length := by
    have := h.programmed.two_le
    omega
  induction n generalizing t p with
  | zero => exact (h.pass hlen).trans fun u ⟨hu, hover⟩ => hu.done hover hlen hn
  | succ n ih =>
    exact (h.pass hlen).trans fun u ⟨hu, hover⟩ => (hu.wrap hover hlen (by omega)).trans fun v hv =>
      ih hv (by omega)

/-- S_ENTRY issues entry 0 of the first pass (R71). -/
theorem Programmed.begins (h : P.Programmed t) (hserved : ServesTheRun t) (hf : t.fsm = .sEntry) (hidx : t.idx = 0)
    (hcyc : t.cyc = 0) (hwire : t.wire ++ frameBytes (P.left 0 0) = P.total) : Reaches t (P.At .selReq 0 0 0) := by
  obtain ⟨w, hw, hcode⟩ := h.entries 0 (by have := h.two_le; omega)
  have hrun : t.fsm ≠ .stopped := by simp [hf]
  obtain ⟨o, k, d, hs⟩ := step_sEntry_issues (hserved.now hrun).live hf (by rw [hidx]; exact hw)
  exact .after hs (.now {
    served := hserved.next hrun hs
    programmed := { h with }
    fsm := rfl
    cyc := congrArg BitVec.toNat hcyc
    idx := congrArg BitVec.toNat hidx
    code := hcode
    wire := hwire })

end StepPlan

/-- The plan of a step run with these codes that begins in `s`. -/
def State.stepPlan (s : State) (codes : List Code) : StepPlan where
  codes := codes
  passes := s.repeatN.toNat
  total := s.wire ++ frameBytes (List.replicate s.repeatN.toNat codes).flatten

/-- At the beginning of the run all its frames are left. -/
theorem State.stepPlan_wire (s : State) (codes : List Code) (h : 0 < s.repeatN.toNat) :
    s.wire ++ frameBytes ((s.stepPlan codes).left 0 0) = (s.stepPlan codes).total := by
  obtain ⟨n, hn⟩ := Nat.exists_eq_add_one.mpr h
  rw [StepPlan.left, State.stepPlan, hn, List.replicate_succ, List.flatten_cons]
  rfl

/-- Settles O59: the first entry is issued, and then every entry is written and held, pass by pass. -/
theorem stepRunWritesEveryEntryOnceAPass : Obligations.StepRunWritesEveryEntryOnceAPass := by
  intro s codes hserved hf hmode hidx hcyc hftw hrepeat htwo hdepth hlen hentries
  have hprog : (s.stepPlan codes).Programmed s := ⟨hmode, hftw, rfl, hlen, hlen ▸ htwo, hlen ▸ hdepth, hentries⟩
  have hbegins := hprog.begins hserved hf hidx hcyc (s.stepPlan_wire codes hrepeat)
  obtain ⟨n, t, hrun, h⟩ := hbegins.trans fun u hu =>
    hu.ends (n := s.repeatN.toNat - 1) (by rw [Nat.zero_add, Nat.sub_add_cancel hrepeat]; rfl)
  exact ⟨n, t, hrun, h.fsm, h.done, h.err, h.cyc, h.wire⟩

end Sys2Proof.Machine

end

section

namespace Sys2Proof.Machine

variable {s u : State} {p : Pins}

/-! ### Operations that look at no pin (R52, R53, R70, R71, R76) -/

theorem State.withPins_afterStepRead (u : State) (p : Pins) (i : Nat) :
    (u.withPins p).afterStepRead i = (u.afterStepRead i).withPins p := by
  have ht : (u.withPins p).table = u.table := rfl
  unfold State.afterStepRead
  rw [ht]
  cases u.table.read i <;> rfl

theorem State.withPins_issueEntry (u : State) (p : Pins) (i : Nat) :
    (u.withPins p).issueEntry i = (u.issueEntry i).withPins p := by
  rw [State.issueEntry, State.withPins_afterStepRead]
  rfl

theorem State.withPins_sample (u : State) (p : Pins) (m : BitVec 2) :
    (u.withPins p).sample m = (u.sample m).withPins p := by
  unfold State.sample
  rw [apply_ite (State.withPins · p)]
  rfl

theorem State.withPins_hold (u : State) (p : Pins) : (u.withPins p).hold = u.hold.withPins p := by
  unfold State.hold
  simp only [apply_ite (State.withPins · p), ← State.withPins_issueEntry]
  rfl

theorem State.withPins_writeDone (u : State) (p : Pins) : (u.withPins p).writeDone = u.writeDone.withPins p := by
  unfold State.writeDone
  simp only [apply_ite (State.withPins · p)]
  rfl

theorem State.withPins_regWrite (u : State) (p : Pins) (w : Word) (r : Reg) :
    (u.withPins p).regWrite w r = (u.regWrite w r).withPins p := by
  cases r <;> rfl

theorem State.withPins_hostRead (u : State) (p : Pins) (a : BitVec 10) :
    (u.withPins p).hostRead a = (u.hostRead a).withPins p := by
  have hread (r : Reg) : (u.withPins p).regRead r = u.regRead r := by cases r <;> rfl
  have hafter (r : Reg) : (u.withPins p).afterRegRead r = (u.afterRegRead r).withPins p := by
    cases r with
    | step i => exact u.withPins_afterStepRead p i
    | _ => rfl
  unfold State.hostRead
  simp only [hread, hafter]
  rfl

/-- Of the writes only a START in STOPPED looks at the pins (R53, R56). -/
theorem State.withPins_hostWrite {a : BitVec 10} {w : Word}
    (h : u.fsm = .stopped → a = cmdSlot → w.extractLsb' 0 8 ≠ startOpcode) :
    (u.withPins p).hostWrite a w = (u.hostWrite a w).withPins p := by
  by_cases hf : u.fsm = .stopped
  · by_cases ha : a = cmdSlot
    · have ho := h hf ha
      rw [ha, State.hostWrite_cmd, State.hostWrite_cmd, State.command, State.command, if_neg ho, if_neg ho]
    · have hb : byteOffset a ≠ 0x004 := fun hb =>
        ha (BitVec.eq_of_toNat_eq (Nat.eq_of_mul_eq_mul_left (by decide : 0 < 4) hb))
      rw [State.hostWrite_stopped a w hf hb, State.hostWrite_stopped (s := u.withPins p) a w hf hb]
      exact u.withPins_regWrite p w _
  · rw [State.hostWrite_running a w hf, State.hostWrite_running (s := u.withPins p) a w hf]

/-! ### The pins the controller looks at (R68) -/

/-- The inputs of the transport's handshakes are the same. -/
structure Pins.SameHandshake (p q : Pins) : Prop where
  /-- `tp_req_ready` is the same. -/
  ready : p.tpReqReady = q.tpReqReady
  /-- `tp_rsp_valid` is the same. -/
  valid : p.tpRspValid = q.tpRspValid
  /-- `tp_rsp_ok` and `tp_rsp_count` are the same. -/
  rsp : p.tpRsp = q.tpRsp

@[simp] theorem State.withPins_pins (u : State) (p : Pins) : (u.withPins p).pins = p := rfl

theorem State.withPins_present (hp : p.SameHandshake u.pins) (op : Bool) (a : BusAddr) (d : BitVec 16) (f : Fsm) :
    (u.withPins p).present op a d f = (u.present op a d f).withPins p := by
  unfold State.present
  rw [State.withPins_pins, hp.ready, apply_ite (State.withPins · p)]
  rfl

theorem State.withPins_selectWait (hp : p.SameHandshake u.pins) :
    (u.withPins p).selectWait = u.selectWait.withPins p := by
  unfold State.selectWait
  rw [State.withPins_pins, hp.valid, hp.rsp]
  simp only [apply_ite (State.withPins · p)]
  rfl

theorem State.withPins_writeWait (hp : p.SameHandshake u.pins) :
    (u.withPins p).writeWait = u.writeWait.withPins p := by
  unfold State.writeWait
  rw [State.withPins_pins, hp.valid, hp.rsp]
  simp only [apply_ite (State.withPins · p), ← State.withPins_writeDone]
  rfl

/-- The controller looks at the pins of the transport's handshakes alone (R69 to R76). -/
theorem State.withPins_loopPhase (hs : p.SameHandshake s.pins) (hu : p.SameHandshake u.pins) :
    (s.withPins p).loopPhase (u.withPins p) = (s.loopPhase u).withPins p := by
  have hf : (s.withPins p).fsm = s.fsm := rfl
  unfold State.loopPhase
  rw [hf]
  cases s.fsm with
  | stopped => rfl
  | pSample => exact u.withPins_sample p _
  | sEntry => exact u.withPins_issueEntry p _
  | sHold => exact u.withPins_hold p
  | selReq => exact State.withPins_present hu _ _ _ _
  | selWait => exact State.withPins_selectWait hu
  | wrReq =>
    have hw := State.withPins_present hu true s.busAddr (frame16 s.code) .wrWait
    dsimp only
    rw [State.withPins_pins, hs.ready, apply_ite (State.withPins · p)]
    exact if_congr Iff.rfl (congrArg (State.handFrame · s.code) hw) hw
  | wrWait => exact State.withPins_writeWait hu

/-! ### The availability of the transport (R86) -/

/-- The same pins but for `tp_avail`. -/
def Pins.withAvail (p : Pins) (b : Bool) : Pins :=
  { p with tpAvail := b }

theorem Pins.withAvail_sameHandshake (p : Pins) (b : Bool) : (p.withAvail b).SameHandshake p :=
  ⟨rfl, rfl, rfl⟩

/-- The host's part of a cycle looks at `tp_avail` for a START in STOPPED alone (R52, R53, R56). -/
theorem State.withAvail_hostPhase (b : Bool) (h : s.fsm = .stopped → ¬ s.pins.PresentsStart) :
    (s.withPins (s.pins.withAvail b)).hostPhase = s.hostPhase.withPins (s.pins.withAvail b) := by
  have hb : (s.withPins (s.pins.withAvail b)).beginCycle = s.beginCycle.withPins (s.pins.withAvail b) := rfl
  unfold State.hostPhase
  rw [hb, State.withPins_pins, Pins.withAvail]
  cases hv : s.pins.hpValid with
  | false => rfl
  | true =>
    cases hw : s.pins.hpWe with
    | false => exact State.withPins_hostRead _ _ _
    | true =>
      exact State.withPins_hostWrite fun hf ha ho => h hf ⟨hv, hw, ha, (opcode_eq_start_iff _).mp ho⟩

/-- Settles O40: the reset edge and the controller look at no pins but the handshakes', and the host's part of a cycle
at `tp_avail` for a START in STOPPED alone. -/
theorem availabilityIsSampledByStartOnly : Obligations.AvailabilityIsSampledByStartOnly := by
  intro s b h
  show step (s.withPins (s.pins.withAvail b)) = step s
  cases hr : s.pins.rst with
  | true =>
    rw [step_reset hr, step_reset (s := s.withPins (s.pins.withAvail b)) hr]
    rfl
  | false =>
    have hstart : s.fsm = .stopped → ¬ s.pins.PresentsStart := by
      rintro hf ⟨hv, hw, hcmd⟩
      simp [hr, hf, hv, hw, hcmd] at h
    have hpins : s.hostPhase.pins = s.pins := State.pins_congr s.hostPhase_sameSample.inputs
    have hsame := s.pins.withAvail_sameHandshake b
    rw [step_live hr, step_live (s := s.withPins (s.pins.withAvail b)) hr, State.withAvail_hostPhase b hstart,
      State.withPins_loopPhase hsame (hpins ▸ hsame)]
    rfl

end Sys2Proof.Machine

end

section

namespace Sys2Proof

/-- The parameters of this hardware are legal (R5). -/
theorem Params.wavegen_legal : Params.wavegen.legal = true := by decide

end Sys2Proof

namespace Sys2Proof.Machine

variable {s : State}

/-! ### Reset (R97, R98) -/

/-- In STOPPED with DONE, ERR and ERR_COUNT clear STATUS reads 0 (R21). -/
theorem State.status_of_cleared (hf : s.fsm = .stopped) (hd : s.done = false) (he : s.err = .none)
    (hc : s.errCount = 0) : s.status = 0 := by
  rw [State.status, State.running_eq_false.mpr hf, hd, he, hc]
  rfl

@[simp] theorem State.reset_status : State.reset.status = 0 :=
  State.status_of_cleared rfl rfl rfl rfl

@[simp] theorem State.resetEdge_status (s : State) : s.resetEdge.status = 0 :=
  State.status_of_cleared s.resetEdge_fsm s.resetEdge_done s.resetEdge_err s.resetEdge_errCount

/-- Settles O1: each register is the literal 0 of the reset state, the table is empty, and STATUS and CYCLES are read
from cleared fields. -/
theorem resetStateHoldsTheResetValues : Obligations.ResetStateHoldsTheResetValues :=
  ⟨rfl, rfl, rfl, rfl, rfl, rfl, rfl, rfl, rfl, rfl, rfl, rfl, rfl, rfl, rfl, rfl, rfl,
    Memory.read_nil, State.reset_status, rfl⟩

/-- Settles O2: a reset cycle is the reset edge alone, which sets every field but the table, the parameters and the
records of what went out. -/
theorem resetCycleLoadsTheResetValues : Obligations.ResetCycleLoadsTheResetValues := by
  intro s hr
  refine ⟨s.resetEdge, step_reset hr, ?_⟩
  simp [Outputs.inReset, TpReqPins.quiet]

end Sys2Proof.Machine

namespace Sys2Proof.Safety

open Sys2Proof.Machine

/-- Settles O52: the reset state is in STOPPED with no entry listed, no error, no request made and none owed, and the
invariants ask nothing of the pins to come. -/
theorem resetMeetsTheInvariant : Obligations.ResetMeetsTheInvariant := by
  intro ins
  refine ⟨?_, ?_, ?_⟩
  · exact .of_stopped rfl Params.wavegen_legal Memory.wf_reset nofun (fun _ => rfl) fun _ => rfl
  · exact .of_not_selected nofun nofun nofun
  · exact .of_settled nofun nofun rfl

end Sys2Proof.Safety

end
